-- ==== Sys2Proof/Word.lean ====
section
/-! DEFINITION. The words of the block and the plain data its transactions are made of. -/

namespace Sys2Proof

/-- A register of the block and its read data: 32 bits (00_scope.md R7). -/
abbrev Word := BitVec 32

/-- One character on the TX or RX line: 8 bits (00_scope.md R7). -/
abbrev Byte := BitVec 8

/-- The data a CPU write carries: up to 64 bits (30_encoding.md R81). -/
abbrev BusWord := BitVec 64

/-- The 40-bit transaction descriptor (30_encoding.md R81). -/
abbrev Descriptor := BitVec 40

/-- Direction of a CPU access (30_encoding.md R81, 60_exceptions.md R201). -/
inductive Dir where
  | read
  | write
  deriving DecidableEq, Repr

/-- A legal access width: 1, 2 or 4 bytes (20_memory.md R63, 30_encoding.md R82). -/
inductive Width where
  | one
  | two
  | four
  deriving DecidableEq, Repr

/-- Lifecycle phase (10_state.md R36). Uninitialized is no value: no transaction observes it. -/
inductive Phase where
  | reset
  | operating
  | destroyed
  deriving DecidableEq, Repr

/-- What the byte sink answers to one call (00_scope.md R11, 42_transmit_path.md R170). -/
inductive SinkAnswer where
  | ok
  | fail
  deriving DecidableEq, Repr, Inhabited

/-- One transaction as a collaborator presents it: its descriptor and its payload (30_encoding.md R81).
Of the payload a CPU write uses `wdata`, all 64 bits, and a delivery uses `b`, the low 8 bits; the other
kinds carry none (R88). -/
structure Request where
  desc : Descriptor
  payload : BusWord
  deriving DecidableEq, Repr

end Sys2Proof
end

