-- ==== Sys2Proof/Config.lean ====
section
/-! DEFINITION. What the SoC composition and the collaborators fix: the open parameters of 00_scope.md R8 and the
sink's answers. Each is opaque: no proof can see a value, so every claim holds for every value. -/

namespace Sys2Proof

/-- `P_BAUD_RESET`: reset value of BAUD (10_state.md R40: a model must not assume a value). Log entry 6. -/
opaque Config.baudReset : Word

/-- `P_CONTROL_RESET`: reset value of CONTROL (10_state.md R44). Log entry 6. -/
opaque Config.controlReset : Word

/-- `P_IRQ_NUMBER`: reset value of INTERRUPT_ENABLE, data only (10_state.md R45). Log entry 6. -/
opaque Config.irqNumber : Word

/-- `P_BASE`: bus address of the register window (20_memory.md R60). Log entry 7. -/
opaque Config.base : Nat

/-- The bytes of the window past its first 0x24. Log entry 7. -/
opaque Config.regionSlack : Nat

/-- `P_REGION_SIZE`: size of the window in bytes, any number of at least 0x24 (00_scope.md R8, 20_memory.md R60). -/
def Config.regionSize : Nat := Config.regionSlack + 0x24

/-- `P_BACKEND_ID`: the character-stream backend attached as byte source and byte sink (00_scope.md R8). No rule
reads it. Log entry 8. -/
opaque Config.backendId : Nat

/-- What the sink answers to its n-th call, counted from 0: a draw (42_transmit_path.md R171). Log entry 9. -/
opaque Config.sinkAnswer : Nat → SinkAnswer

/-- The window holds every register slot (20_memory.md R60). -/
theorem Config.regionSize_ge : 0x24 ≤ Config.regionSize := Nat.le_add_left _ _

end Sys2Proof
end

