-- ==== Sys2Proof/Syntax.lean ====
section
/-! DEFINITION. The transactions of the block, one constructor per row of spec/opcode_table.json, in the table's order. -/

namespace Sys2Proof

/-- One decoded transaction (30_encoding.md R85, R86, R90). `w` is the access width, `wdata` the bus write value,
`off` the byte offset from `P_BASE`, `b` the delivered byte, `d` a raw descriptor that is refused. -/
inductive Instr where
  /-- REFUSED_DESTROYED: any descriptor once the instance is destroyed (R193). -/
  | refusedDestroyed (d : Descriptor)
  /-- REFUSED_RESERVED_BITS: `rsv != 000` (R122). -/
  | refusedReservedBits (d : Descriptor)
  /-- REFUSED_WIDTH: a CPU access with `sz = 11` (R120). -/
  | refusedWidth (dir : Dir) (off : Word)
  /-- REFUSED_WINDOW: a CPU access at or above `P_REGION_SIZE` (R121). -/
  | refusedWindow (dir : Dir) (w : Width) (off : Word)
  /-- RD_BAUD (R101). -/
  | rdBaud (w : Width)
  /-- RD_TX, invalid: TX is write-only (R103). -/
  | rdTx (w : Width)
  /-- RD_RX, the one read with side effects (R153). -/
  | rdRx (w : Width)
  /-- RD_STATUS (R106). -/
  | rdStatus (w : Width)
  /-- RD_DELAY (R108). -/
  | rdDelay (w : Width)
  /-- RD_CONTROL (R110). -/
  | rdControl (w : Width)
  /-- RD_IE: read INTERRUPT_ENABLE (R112). -/
  | rdIe (w : Width)
  /-- RD_IQC: read IQ_CYCLES (R114). -/
  | rdIqc (w : Width)
  /-- RD_RXT: read RX_THRESHOLD (R116). -/
  | rdRxt (w : Width)
  /-- WR_BAUD (R102). -/
  | wrBaud (w : Width) (wdata : BusWord)
  /-- WR_TX: hand one byte to the sink (R170). -/
  | wrTx (w : Width) (wdata : BusWord)
  /-- WR_RX, invalid: RX is read-only (R105). -/
  | wrRx (w : Width) (wdata : BusWord)
  /-- WR_STATUS: every bit is written (R107). -/
  | wrStatus (w : Width) (wdata : BusWord)
  /-- WR_DELAY (R109). -/
  | wrDelay (w : Width) (wdata : BusWord)
  /-- WR_CONTROL (R111). -/
  | wrControl (w : Width) (wdata : BusWord)
  /-- WR_IE: write INTERRUPT_ENABLE (R113). -/
  | wrIe (w : Width) (wdata : BusWord)
  /-- WR_IQC: write IQ_CYCLES (R115). -/
  | wrIqc (w : Width) (wdata : BusWord)
  /-- WR_RXT: write RX_THRESHOLD (R117). -/
  | wrRxt (w : Width) (wdata : BusWord)
  /-- DELIVER: the byte source delivers `b` (R151, R152). -/
  | deliver (b : Byte)
  /-- CAN_ACCEPT: the backpressure query (R150). -/
  | canAccept
  /-- RESET: system reset (R191). -/
  | reset
  /-- DESTROY: release of the instance (R193). -/
  | destroy
  /-- RD_BADOFF, invalid: a read at an offset in the window that names no register (R118). -/
  | rdBadoff (w : Width) (off : Word)
  /-- WR_BADOFF, invalid: a write at an offset in the window that names no register (R119). -/
  | wrBadoff (w : Width) (off : Word) (wdata : BusWord)
  /-- REFUSED_FORM: a malformed descriptor on a port that is not the CPU's (R122). -/
  | refusedForm (d : Descriptor)
  deriving DecidableEq, Repr

end Sys2Proof
end

