-- ==== Sys2Proof/Decode.lean ====
section
/-! DEFINITION. The descriptor's fields, the decoder of 30_encoding.md R85, the encoder, the opcode table as data (R90),
and the transaction notation of R89. -/

namespace Sys2Proof

/-! ### Fields of a descriptor (R81) -/

/-- `d[39:38]`. -/
def descPort (d : Descriptor) : BitVec 2 := d.extractLsb' 38 2

/-- `d[37]`: 1 is a write on the CPU port. -/
def descDir (d : Descriptor) : Dir := if d.getLsbD 37 then .write else .read

/-- `d[36:35]`. -/
def descSz (d : Descriptor) : BitVec 2 := d.extractLsb' 35 2

/-- `d[34:32]`. -/
def descRsv (d : Descriptor) : BitVec 3 := d.extractLsb' 32 3

/-- `d[31:0]`. -/
def descOff (d : Descriptor) : Word := d.extractLsb' 0 32

/-- A descriptor from its five fields (R81). -/
def packDescriptor (port : BitVec 2) (dir : BitVec 1) (sz : BitVec 2) (rsv : BitVec 3) (off : Word) : Descriptor :=
  port ++ dir ++ sz ++ rsv ++ off

/-- The direction bit of a direction (R81). -/
def dirBit (dir : Dir) : BitVec 1 :=
  match dir with
  | .read => 0#1
  | .write => 1#1

/-- The width a width code names; 11 names none (R82). -/
def widthOfSz (sz : BitVec 2) : Option Width :=
  match sz with
  | 0b00#2 => some .one
  | 0b01#2 => some .two
  | 0b10#2 => some .four
  | _ => none

/-- The width code of a width (R82). -/
def szOfWidth (w : Width) : BitVec 2 :=
  match w with
  | .one => 0b00#2
  | .two => 0b01#2
  | .four => 0b10#2

/-! ### Register slots (20_memory.md R61) -/

/-- The nine register slots of the window, in the order of their offsets. -/
inductive Slot where
  | baud
  | tx
  | rx
  | status
  | delay
  | control
  | interruptEnable
  | iqCycles
  | rxThreshold
  deriving DecidableEq, Repr

/-- The byte offset of a slot: the set V of R61. -/
def slotOffset (k : Slot) : Word :=
  match k with
  | .baud => 0x00#32
  | .tx => 0x04#32
  | .rx => 0x08#32
  | .status => 0x0C#32
  | .delay => 0x10#32
  | .control => 0x14#32
  | .interruptEnable => 0x18#32
  | .iqCycles => 0x1C#32
  | .rxThreshold => 0x20#32

/-- The slot at an offset; none for an offset outside V (R61, R69: exactly the slot's base, whatever the width). -/
def slotAt (off : Word) : Option Slot :=
  if off = 0x00#32 then some .baud
  else if off = 0x04#32 then some .tx
  else if off = 0x08#32 then some .rx
  else if off = 0x0C#32 then some .status
  else if off = 0x10#32 then some .delay
  else if off = 0x14#32 then some .control
  else if off = 0x18#32 then some .interruptEnable
  else if off = 0x1C#32 then some .iqCycles
  else if off = 0x20#32 then some .rxThreshold
  else none

/-! ### The four descriptors of the other ports (R86) -/

/-- DELIVER, `port = 01, dir = 1`. -/
def deliverDesc : Descriptor := 0x6000000000#40

/-- CAN_ACCEPT, `port = 11, dir = 0`. -/
def canAcceptDesc : Descriptor := 0xC000000000#40

/-- RESET, `port = 10, dir = 0`. -/
def resetDesc : Descriptor := 0x8000000000#40

/-- DESTROY, `port = 10, dir = 1`. -/
def destroyDesc : Descriptor := 0xA000000000#40

/-! ### The decoder (R85) -/

/-- The read row of an offset inside the window (R86, R118). -/
def decodeRead (w : Width) (off : Word) : Instr :=
  match slotAt off with
  | some .baud => .rdBaud w
  | some .tx => .rdTx w
  | some .rx => .rdRx w
  | some .status => .rdStatus w
  | some .delay => .rdDelay w
  | some .control => .rdControl w
  | some .interruptEnable => .rdIe w
  | some .iqCycles => .rdIqc w
  | some .rxThreshold => .rdRxt w
  | none => .rdBadoff w off

/-- The write row of an offset inside the window (R86, R119). -/
def decodeWrite (w : Width) (off : Word) (wdata : BusWord) : Instr :=
  match slotAt off with
  | some .baud => .wrBaud w wdata
  | some .tx => .wrTx w wdata
  | some .rx => .wrRx w wdata
  | some .status => .wrStatus w wdata
  | some .delay => .wrDelay w wdata
  | some .control => .wrControl w wdata
  | some .interruptEnable => .wrIe w wdata
  | some .iqCycles => .wrIqc w wdata
  | some .rxThreshold => .wrRxt w wdata
  | none => .wrBadoff w off wdata

/-- A CPU access: width, then window, then offset and direction (R85). `region` is `P_REGION_SIZE`. -/
def decodeCpu (region : Nat) (q : Request) : Instr :=
  match widthOfSz (descSz q.desc) with
  | none => .refusedWidth (descDir q.desc) (descOff q.desc)
  | some w =>
    if region ≤ (descOff q.desc).toNat then .refusedWindow (descDir q.desc) w (descOff q.desc)
    else
      match descDir q.desc with
      | .read => decodeRead w (descOff q.desc)
      | .write => decodeWrite w (descOff q.desc) q.payload

/-- A descriptor of another port: one of the four exact forms, or malformed (R85, R86). -/
def decodeOther (q : Request) : Instr :=
  if q.desc = deliverDesc then .deliver (q.payload.setWidth 8)
  else if q.desc = resetDesc then .reset
  else if q.desc = destroyDesc then .destroy
  else if q.desc = canAcceptDesc then .canAccept
  else .refusedForm q.desc

/-- The decoder of R85, total: every request is exactly one operation or one refusal. `ph` is the phase the
transaction finds, `region` is `P_REGION_SIZE`. -/
def decode (ph : Phase) (region : Nat) (q : Request) : Instr :=
  if ph = .destroyed then .refusedDestroyed q.desc
  else if descRsv q.desc ≠ 0#3 then .refusedReservedBits q.desc
  else if descPort q.desc = 0b00#2 then decodeCpu region q
  else decodeOther q

/-! ### The encoder (R81, R86) -/

/-- The request of a CPU read. -/
def readRequest (w : Width) (off : Word) : Request :=
  ⟨packDescriptor 0b00#2 0#1 (szOfWidth w) 0#3 off, 0#64⟩

/-- The request of a CPU write. -/
def writeRequest (w : Width) (off : Word) (wdata : BusWord) : Request :=
  ⟨packDescriptor 0b00#2 1#1 (szOfWidth w) 0#3 off, wdata⟩

/-- The request of a delivery. -/
def deliverRequest (b : Byte) : Request := ⟨deliverDesc, b.setWidth 64⟩

/-- The request of an instruction. A refused one keeps the descriptor it was refused for. -/
def encode (i : Instr) : Request :=
  match i with
  | .refusedDestroyed d => ⟨d, 0#64⟩
  | .refusedReservedBits d => ⟨d, 0#64⟩
  | .refusedWidth dir off => ⟨packDescriptor 0b00#2 (dirBit dir) 0b11#2 0#3 off, 0#64⟩
  | .refusedWindow dir w off => ⟨packDescriptor 0b00#2 (dirBit dir) (szOfWidth w) 0#3 off, 0#64⟩
  | .rdBaud w => readRequest w (slotOffset .baud)
  | .rdTx w => readRequest w (slotOffset .tx)
  | .rdRx w => readRequest w (slotOffset .rx)
  | .rdStatus w => readRequest w (slotOffset .status)
  | .rdDelay w => readRequest w (slotOffset .delay)
  | .rdControl w => readRequest w (slotOffset .control)
  | .rdIe w => readRequest w (slotOffset .interruptEnable)
  | .rdIqc w => readRequest w (slotOffset .iqCycles)
  | .rdRxt w => readRequest w (slotOffset .rxThreshold)
  | .wrBaud w wdata => writeRequest w (slotOffset .baud) wdata
  | .wrTx w wdata => writeRequest w (slotOffset .tx) wdata
  | .wrRx w wdata => writeRequest w (slotOffset .rx) wdata
  | .wrStatus w wdata => writeRequest w (slotOffset .status) wdata
  | .wrDelay w wdata => writeRequest w (slotOffset .delay) wdata
  | .wrControl w wdata => writeRequest w (slotOffset .control) wdata
  | .wrIe w wdata => writeRequest w (slotOffset .interruptEnable) wdata
  | .wrIqc w wdata => writeRequest w (slotOffset .iqCycles) wdata
  | .wrRxt w wdata => writeRequest w (slotOffset .rxThreshold) wdata
  | .deliver b => deliverRequest b
  | .canAccept => ⟨canAcceptDesc, 0#64⟩
  | .reset => ⟨resetDesc, 0#64⟩
  | .destroy => ⟨destroyDesc, 0#64⟩
  | .rdBadoff w off => readRequest w off
  | .wrBadoff w off wdata => writeRequest w off wdata
  | .refusedForm d => ⟨d, 0#64⟩

/-- What of a request's payload its instruction carries (R83, R88): all of it for a write, the low byte for a
delivery, nothing otherwise. -/
def carriedPayload (i : Instr) (payload : BusWord) : BusWord :=
  match i with
  | .wrBaud _ _ => payload
  | .wrTx _ _ => payload
  | .wrRx _ _ => payload
  | .wrStatus _ _ => payload
  | .wrDelay _ _ => payload
  | .wrControl _ _ => payload
  | .wrIe _ _ => payload
  | .wrIqc _ _ => payload
  | .wrRxt _ _ => payload
  | .wrBadoff _ _ _ => payload
  | .deliver _ => (payload.setWidth 8).setWidth 64
  | .refusedDestroyed _ => 0#64
  | .refusedReservedBits _ => 0#64
  | .refusedWidth _ _ => 0#64
  | .refusedWindow _ _ _ => 0#64
  | .rdBaud _ => 0#64
  | .rdTx _ => 0#64
  | .rdRx _ => 0#64
  | .rdStatus _ => 0#64
  | .rdDelay _ => 0#64
  | .rdControl _ => 0#64
  | .rdIe _ => 0#64
  | .rdIqc _ => 0#64
  | .rdRxt _ => 0#64
  | .canAccept => 0#64
  | .reset => 0#64
  | .destroy => 0#64
  | .rdBadoff _ _ => 0#64
  | .refusedForm _ => 0#64

/-! ### The opcode table as data (R90) -/

/-- The name of an instruction's row in spec/opcode_table.json. -/
def mnemonic (i : Instr) : String :=
  match i with
  | .refusedDestroyed _ => "REFUSED_DESTROYED"
  | .refusedReservedBits _ => "REFUSED_RESERVED_BITS"
  | .refusedWidth _ _ => "REFUSED_WIDTH"
  | .refusedWindow _ _ _ => "REFUSED_WINDOW"
  | .rdBaud _ => "RD_BAUD"
  | .rdTx _ => "RD_TX"
  | .rdRx _ => "RD_RX"
  | .rdStatus _ => "RD_STATUS"
  | .rdDelay _ => "RD_DELAY"
  | .rdControl _ => "RD_CONTROL"
  | .rdIe _ => "RD_IE"
  | .rdIqc _ => "RD_IQC"
  | .rdRxt _ => "RD_RXT"
  | .wrBaud _ _ => "WR_BAUD"
  | .wrTx _ _ => "WR_TX"
  | .wrRx _ _ => "WR_RX"
  | .wrStatus _ _ => "WR_STATUS"
  | .wrDelay _ _ => "WR_DELAY"
  | .wrControl _ _ => "WR_CONTROL"
  | .wrIe _ _ => "WR_IE"
  | .wrIqc _ _ => "WR_IQC"
  | .wrRxt _ _ => "WR_RXT"
  | .deliver _ => "DELIVER"
  | .canAccept => "CAN_ACCEPT"
  | .reset => "RESET"
  | .destroy => "DESTROY"
  | .rdBadoff _ _ => "RD_BADOFF"
  | .wrBadoff _ _ _ => "WR_BADOFF"
  | .refusedForm _ => "REFUSED_FORM"

/-- The condition a row's `fields` put on a descriptor beside its mask. -/
inductive RowCond where
  /-- `phase = Destroyed`. -/
  | destroyed
  /-- `rsv != 000`. -/
  | reservedSet
  /-- `off >= P_REGION_SIZE` and `sz` in 00, 01, 10. -/
  | outsideWindow
  /-- `sz` in 00, 01, 10. -/
  | legalWidth
  /-- `sz` in 00, 01, 10 and `off < P_REGION_SIZE` and `off` not in V. -/
  | badOffset
  /-- No condition. -/
  | always
  deriving DecidableEq, Repr

/-- One row of the table: its name, the `match` and `mask` of its hex strings, its condition and its priority. -/
structure OpcodeRow where
  name : String
  pattern : Descriptor
  mask : Descriptor
  cond : RowCond
  priority : Nat
  deriving DecidableEq, Repr

/-- The offsets V as a list (R61). -/
def validOffsets : List Word :=
  [0x00#32, 0x04#32, 0x08#32, 0x0C#32, 0x10#32, 0x14#32, 0x18#32, 0x1C#32, 0x20#32]

/-- Whether a row's condition holds of a descriptor found in a phase. -/
def rowCondHolds (c : RowCond) (ph : Phase) (region : Nat) (d : Descriptor) : Bool :=
  match c with
  | .destroyed => decide (ph = .destroyed)
  | .reservedSet => decide (descRsv d ≠ 0#3)
  | .outsideWindow => decide (descSz d ≠ 0b11#2 ∧ region ≤ (descOff d).toNat)
  | .legalWidth => decide (descSz d ≠ 0b11#2)
  | .badOffset => decide (descSz d ≠ 0b11#2 ∧ (descOff d).toNat < region ∧ descOff d ∉ validOffsets)
  | .always => true

/-- A row matches a descriptor `d` when `(d & mask) = match` and its condition holds (R90). -/
def rowMatches (r : OpcodeRow) (ph : Phase) (region : Nat) (d : Descriptor) : Bool :=
  decide (d &&& r.mask = r.pattern) && rowCondHolds r.cond ph region d

/-- The refusal rows of priority 0 to 3. -/
def refusalRows : List OpcodeRow :=
  [⟨"REFUSED_DESTROYED", 0x0000000000#40, 0x0000000000#40, .destroyed, 0⟩,
   ⟨"REFUSED_RESERVED_BITS", 0x0000000000#40, 0x0000000000#40, .reservedSet, 1⟩,
   ⟨"REFUSED_WIDTH", 0x1800000000#40, 0xD800000000#40, .always, 2⟩,
   ⟨"REFUSED_WINDOW", 0x0000000000#40, 0xC700000000#40, .outsideWindow, 3⟩]

/-- The rows of the CPU reads of a register slot. -/
def readRows : List OpcodeRow :=
  [⟨"RD_BAUD", 0x0000000000#40, 0xE7FFFFFFFF#40, .legalWidth, 4⟩,
   ⟨"RD_TX", 0x0000000004#40, 0xE7FFFFFFFF#40, .legalWidth, 4⟩,
   ⟨"RD_RX", 0x0000000008#40, 0xE7FFFFFFFF#40, .legalWidth, 4⟩,
   ⟨"RD_STATUS", 0x000000000C#40, 0xE7FFFFFFFF#40, .legalWidth, 4⟩,
   ⟨"RD_DELAY", 0x0000000010#40, 0xE7FFFFFFFF#40, .legalWidth, 4⟩,
   ⟨"RD_CONTROL", 0x0000000014#40, 0xE7FFFFFFFF#40, .legalWidth, 4⟩,
   ⟨"RD_IE", 0x0000000018#40, 0xE7FFFFFFFF#40, .legalWidth, 4⟩,
   ⟨"RD_IQC", 0x000000001C#40, 0xE7FFFFFFFF#40, .legalWidth, 4⟩,
   ⟨"RD_RXT", 0x0000000020#40, 0xE7FFFFFFFF#40, .legalWidth, 4⟩]

/-- The rows of the CPU writes of a register slot. -/
def writeRows : List OpcodeRow :=
  [⟨"WR_BAUD", 0x2000000000#40, 0xE7FFFFFFFF#40, .legalWidth, 4⟩,
   ⟨"WR_TX", 0x2000000004#40, 0xE7FFFFFFFF#40, .legalWidth, 4⟩,
   ⟨"WR_RX", 0x2000000008#40, 0xE7FFFFFFFF#40, .legalWidth, 4⟩,
   ⟨"WR_STATUS", 0x200000000C#40, 0xE7FFFFFFFF#40, .legalWidth, 4⟩,
   ⟨"WR_DELAY", 0x2000000010#40, 0xE7FFFFFFFF#40, .legalWidth, 4⟩,
   ⟨"WR_CONTROL", 0x2000000014#40, 0xE7FFFFFFFF#40, .legalWidth, 4⟩,
   ⟨"WR_IE", 0x2000000018#40, 0xE7FFFFFFFF#40, .legalWidth, 4⟩,
   ⟨"WR_IQC", 0x200000001C#40, 0xE7FFFFFFFF#40, .legalWidth, 4⟩,
   ⟨"WR_RXT", 0x2000000020#40, 0xE7FFFFFFFF#40, .legalWidth, 4⟩]

/-- The rows of the other ports, the bad offsets, and what is left. -/
def otherRows : List OpcodeRow :=
  [⟨"DELIVER", 0x6000000000#40, 0xFFFFFFFFFF#40, .always, 4⟩,
   ⟨"CAN_ACCEPT", 0xC000000000#40, 0xFFFFFFFFFF#40, .always, 4⟩,
   ⟨"RESET", 0x8000000000#40, 0xFFFFFFFFFF#40, .always, 4⟩,
   ⟨"DESTROY", 0xA000000000#40, 0xFFFFFFFFFF#40, .always, 4⟩,
   ⟨"RD_BADOFF", 0x0000000000#40, 0xE700000000#40, .badOffset, 5⟩,
   ⟨"WR_BADOFF", 0x2000000000#40, 0xE700000000#40, .badOffset, 5⟩,
   ⟨"REFUSED_FORM", 0x0000000000#40, 0x0000000000#40, .always, 6⟩]

/-- All 29 rows of spec/opcode_table.json, in its order, which is by ascending priority. -/
def opcodeTable : List OpcodeRow := refusalRows ++ readRows ++ writeRows ++ otherRows

/-! ### Numbered as the table numbers bits -/

/-- The request whose bits are `w`: descriptor in bits 39:0, payload in the bits above, every bit from `nbits` on 0.
Log entry 10. -/
def requestOfWord (nbits w : Nat) : Request :=
  let v := w % 2 ^ nbits
  ⟨BitVec.ofNat 40 v, BitVec.ofNat 64 (v / 2 ^ 40)⟩

/-- What the decoder reads from those bits, found by a block that is not destroyed. The decoder is total. -/
def decodeTableWord (nbits w : Nat) : Option Instr :=
  some (decode .reset Config.regionSize (requestOfWord nbits w))

/-! ### The transaction notation (R89) -/

/-- A target: a register's alias, or an offset literal. -/
inductive Target where
  | reg (k : Slot)
  | lit (off : Word)
  deriving DecidableEq, Repr

/-- The offset a target stands for (R89: register names are aliases for their offsets). -/
def targetOffset (t : Target) : Word :=
  match t with
  | .reg k => slotOffset k
  | .lit off => off

/-- A transaction as 95_test_vectors.md writes it. -/
inductive Asm where
  /-- `rd.w target` -/
  | rdw (w : Width) (t : Target)
  /-- `wr.w target, value` -/
  | wrw (w : Width) (t : Target) (v : BusWord)
  /-- `rxb byte` -/
  | rxb (b : Byte)
  /-- `canacc` -/
  | canacc
  /-- `reset` -/
  | reset
  /-- `destroy` -/
  | destroy
  deriving DecidableEq, Repr

/-- `rd target` is `rd.4 target`. -/
def asmRd (t : Target) : Asm := .rdw .four t

/-- `wr target, v` is `wr.4 target, v`. -/
def asmWr (t : Target) (v : BusWord) : Asm := .wrw .four t v

/-- `putc b` is `wr.1 TX, b`. -/
def asmPutc (b : BusWord) : Asm := .wrw .one (.reg .tx) b

/-- `getc` is `rd.1 RX`. -/
def asmGetc : Asm := .rdw .one (.reg .rx)

/-- `stat` is `rd.4 STATUS`. -/
def asmStat : Asm := .rdw .four (.reg .status)

/-- The request a written transaction presents. -/
def assemble (a : Asm) : Request :=
  match a with
  | .rdw w t => readRequest w (targetOffset t)
  | .wrw w t v => writeRequest w (targetOffset t) v
  | .rxb b => deliverRequest b
  | .canacc => ⟨canAcceptDesc, 0#64⟩
  | .reset => ⟨resetDesc, 0#64⟩
  | .destroy => ⟨destroyDesc, 0#64⟩

end Sys2Proof
end

