-- ==== Sys2Proof/Machine/State.lean ====
section
/-! DEFINITION. The state of one UART, what it has put out, and what is presented to it; the reasons a step can stop;
the state right after construction and reset. -/

namespace Sys2Proof.Machine

/-- Why a step would stop with a fault. It has no constructor: nothing in the block is fatal (60_exceptions.md R205), and
the one model fault, RX_CONTRACT_VIOLATION, is a sticky bit of State after which the run goes on (R203). Safe: a claim
that no fault occurs is true of every step. -/
inductive Fault where
  deriving DecidableEq, Repr

/-- Why a transaction has no meaning (60_exceptions.md R204). Each is the spec's own refusal by name, answered by the
meaning of one row; a step records it and goes on to the next transaction. Log entry 4. -/
inductive Refusal where
  /-- An instruction the model gives no meaning yet; no arm answers it. Safe: a run would stop. -/
  | notModelled (mnemonic : String)
  /-- DESTROYED: every transaction once the instance is destroyed, raised by every meaning there (R193). Safe: no effect
  is claimed. -/
  | destroyed
  /-- RESERVED_BITS: raised by REFUSED_RESERVED_BITS, `rsv != 000` (R122). Safe: no effect is claimed. -/
  | reservedBits
  /-- BAD_WIDTH: raised by REFUSED_WIDTH, width code 11 (R120). Safe: no effect is claimed. -/
  | badWidth
  /-- OUTSIDE_WINDOW: raised by REFUSED_WINDOW, an offset at or above P_REGION_SIZE (R121). Safe: no effect is claimed. -/
  | outsideWindow
  /-- BAD_FORM: raised by REFUSED_FORM, a malformed descriptor of another port (R122). Safe: no effect is claimed. -/
  | badForm
  deriving DecidableEq, Repr

/-- Kind of an invalid access (60_exceptions.md R201). -/
inductive DiagKind where
  | badOffset
  | readOfWriteOnly
  | writeOfReadOnly
  deriving DecidableEq, Repr

/-- One guest-visible diagnostic, `Diag(kind, dir, off, w)` (60_exceptions.md R201). -/
structure Diag where
  kind : DiagKind
  dir : Dir
  off : Word
  width : Width
  deriving DecidableEq, Repr

/-- What a transaction answers: a CPU read 32 bits, a query one Bool, the others nothing (30_encoding.md R84). -/
inductive Response where
  | data (v : Word)
  | accept (b : Bool)
  deriving DecidableEq, Repr

/-- The eight stored registers; TX is not stored (10_state.md R20, R23). -/
inductive Reg where
  | baud
  | rx
  | status
  | delay
  | control
  | interruptEnable
  | iqCycles
  | rxThreshold
  deriving DecidableEq, Repr

/-- The first ten fields are the block's whole state (10_state.md R20, R21). The others are the model's: the record of
what the block has put out (R39, R204), which no rule reads back, and the transactions its collaborators present (R38). -/
structure State where
  /-- `reg.BAUD` (R22). -/
  baud : Word
  /-- `reg.RX` (R24). -/
  rx : Word
  /-- `reg.STATUS` (R25 to R29). -/
  status : Word
  /-- `reg.DELAY` (R30). -/
  delay : Word
  /-- `reg.CONTROL` (R31). -/
  control : Word
  /-- `reg.INTERRUPT_ENABLE` (R32). -/
  interruptEnable : Word
  /-- `reg.IQ_CYCLES` (R33). -/
  iqCycles : Word
  /-- `reg.RX_THRESHOLD` (R34). -/
  rxThreshold : Word
  /-- Lifecycle phase (R36). -/
  phase : Phase
  /-- The sticky model fault RX_CONTRACT_VIOLATION (R37). -/
  faultRx : Bool
  /-- Answers given, oldest first (R39). -/
  responses : List Response
  /-- Bytes handed to the sink, oldest first (R39). -/
  sink : List Byte
  /-- Number of AcceptNotify events (R39). -/
  notifies : Nat
  /-- Diagnostics emitted, oldest first (R39). -/
  diags : List Diag
  /-- Refusals recorded by name, oldest first (60_exceptions.md R204). -/
  refusals : List Refusal
  /-- Transactions presented and not yet taken, the next one first (20_memory.md R73). Log entry 1. -/
  inbox : List Request
  deriving DecidableEq, Repr

/-- The value of a stored register. -/
def State.reg (s : State) (r : Reg) : Word :=
  match r with
  | .baud => s.baud
  | .rx => s.rx
  | .status => s.status
  | .delay => s.delay
  | .control => s.control
  | .interruptEnable => s.interruptEnable
  | .iqCycles => s.iqCycles
  | .rxThreshold => s.rxThreshold

/-- The reset value of a stored register (10_state.md R40 to R47). -/
def resetValue (r : Reg) : Word :=
  match r with
  | .baud => Config.baudReset
  | .rx => 0x00000000#32
  | .status => 0x00000000#32
  | .delay => 0x00000000#32
  | .control => Config.controlReset
  | .interruptEnable => Config.irqNumber
  | .iqCycles => 0x00000000#32
  | .rxThreshold => 0x00000000#32

/-- The instance as its owner creates it, before the first reset: every stored register zero (10_state.md R48). The spec
gives it no phase, since Uninitialized is no value of `phase` (R36, 92_eei_decisions.md D12): phase Reset here is a DESIGN
CHOICE, log entry 16. That `faultRx` is false is log entry 5, and the empty outputs and inbox are log entries 1, 3 and 4. -/
def State.created : State where
  baud := 0x00000000#32
  rx := 0x00000000#32
  status := 0x00000000#32
  delay := 0x00000000#32
  control := 0x00000000#32
  interruptEnable := 0x00000000#32
  iqCycles := 0x00000000#32
  rxThreshold := 0x00000000#32
  phase := .reset
  faultRx := false
  responses := []
  sink := []
  notifies := 0
  diags := []
  refusals := []
  inbox := []

/-- The machine right after construction and reset: S_R of 95_test_vectors.md (10_state.md R40 to R49), with nothing put
out and nothing presented yet. -/
def State.reset : State where
  baud := Config.baudReset
  rx := 0x00000000#32
  status := 0x00000000#32
  delay := 0x00000000#32
  control := Config.controlReset
  interruptEnable := Config.irqNumber
  iqCycles := 0x00000000#32
  rxThreshold := 0x00000000#32
  phase := .reset
  faultRx := false
  responses := []
  sink := []
  notifies := 0
  diags := []
  refusals := []
  inbox := []

end Sys2Proof.Machine
end

