-- ==== Sys2Proof/Machine/Flags.lean ====
section
/-! DEFINITION. The STATUS flags (10_state.md R25), the interrupt level (43_interrupt_evaluator.md) and the backpressure
predicate (41_receive_path.md R150). -/

namespace Sys2Proof.Machine

/-- STATUS bit 0 (10_state.md R26). -/
def txEmptyBit : Nat := 0

/-- STATUS bit 1 (10_state.md R27). -/
def txFullBit : Nat := 1

/-- STATUS bit 2 (10_state.md R28). -/
def rxNotEmptyBit : Nat := 2

/-- STATUS bit 3 (10_state.md R29). -/
def rxFullBit : Nat := 3

/-- `v` with bit `i` set, the others unchanged. -/
def setBit (v : Word) (i : Nat) : Word := v ||| (1#32 <<< i)

/-- `v` with bit `i` cleared, the others unchanged. -/
def clearBit (v : Word) (i : Nat) : Word := v &&& ~~~(1#32 <<< i)

/-- STATUS after an accepted delivery: RX_NOT_EMPTY set, nothing else (41_receive_path.md R151). -/
def statusAfterDelivery (status : Word) : Word := setBit status rxNotEmptyBit

/-- STATUS after an RX read: RX_NOT_EMPTY cleared, nothing else (41_receive_path.md R153, 90_conflicts.md C2). -/
def statusAfterRxRead (status : Word) : Word := clearBit status rxNotEmptyBit

/-- STATUS after a TX write: TX_FULL cleared, nothing else (42_transmit_path.md R170, R173). -/
def statusAfterTxWrite (status : Word) : Word := clearBit status txFullBit

/-- The interrupt level, `reg.STATUS[2]`, and nothing else is consulted (43_interrupt_evaluator.md R180, R181). -/
def irq (s : State) : Bool := s.status.getLsbD rxNotEmptyBit

/-- The `irq` output: the level while the instance lives, nothing driven once it is destroyed (R185, 44_lifecycle.md R193). -/
def irqLine (s : State) : Option Bool :=
  match s.phase with
  | .reset => some (irq s)
  | .operating => some (irq s)
  | .destroyed => none

/-- The backpressure predicate, `reg.STATUS[2] = 0` (41_receive_path.md R150). -/
def canAccept (s : State) : Bool := !(s.status.getLsbD rxNotEmptyBit)

end Sys2Proof.Machine
end

