-- ==== Sys2Proof/Machine/Operands.lean ====
section
/-! DEFINITION. The operand forms: how a width cuts a value, and which byte of a write reaches the TX line. -/

namespace Sys2Proof.Machine

/-- Bits an access width covers: `8*w`. -/
def widthBits (w : Width) : Nat :=
  match w with
  | .one => 8
  | .two => 16
  | .four => 32

/-- `narrow(v, w)` is `zext_32(v[8*w-1:0])` (00_scope.md R9). Of a register it is what a read of that width returns
(20_memory.md R64), of bus write data what a write of that width stores (R65). Log entry 14. -/
def narrow {n : Nat} (v : BitVec n) (w : Width) : Word :=
  match w with
  | .one => (v.setWidth 8).setWidth 32
  | .two => (v.setWidth 16).setWidth 32
  | .four => v.setWidth 32

/-- The transmitted byte, `wdata[7:0]` (20_memory.md R67, 42_transmit_path.md R170). -/
def txByte (wdata : BusWord) : Byte := wdata.setWidth 8

/-- A received byte as the register holds it: `zext_32(b)` (41_receive_path.md R151). -/
def rxWord (b : Byte) : Word := b.setWidth 32

/-- The pending byte, `reg.RX[7:0]` (10_state.md R35). -/
def rxByte (v : Word) : Byte := v.setWidth 8

/-- Read data on a bus of `n` bits, zero-extended where the bus is wider than 32 bits (30_encoding.md R84). -/
def onBus (n : Nat) (rdata : Word) : BitVec n := rdata.setWidth n

end Sys2Proof.Machine
end

