-- ==== Sys2Proof/Machine/Ops.lean ====
section
/-! DEFINITION. The named operations every meaning is made of. The block takes no trap and returns from none
(60_exceptions.md R210, R211), so none of these enters or leaves a handler. -/

namespace Sys2Proof.Machine

/-! ### Writing one piece of the state -/

/-- `reg.NAME <- v` (00_scope.md R10): the whole register is replaced (20_memory.md R65). -/
def State.setReg (s : State) (r : Reg) (v : Word) : State :=
  match r with
  | .baud => { s with baud := v }
  | .rx => { s with rx := v }
  | .status => { s with status := v }
  | .delay => { s with delay := v }
  | .control => { s with control := v }
  | .interruptEnable => { s with interruptEnable := v }
  | .iqCycles => { s with iqCycles := v }
  | .rxThreshold => { s with rxThreshold := v }

/-- The phase after an accepted CPU access or delivery: Reset becomes Operating (44_lifecycle.md R192). -/
def phaseAfterAccess (p : Phase) : Phase :=
  match p with
  | .reset => .operating
  | .operating => .operating
  | .destroyed => .destroyed

/-- The phase step of 44_lifecycle.md R192. -/
def State.operate (s : State) : State := { s with phase := phaseAfterAccess s.phase }

/-- `return v` (00_scope.md R11): one answer to the transaction. -/
def State.respond (s : State) (r : Response) : State := { s with responses := s.responses ++ [r] }

/-- `emit Diag(kind, dir, off, w)` (00_scope.md R11, 60_exceptions.md R201). -/
def State.emitDiag (s : State) (d : Diag) : State := { s with diags := s.diags ++ [d] }

/-- `emit AcceptNotify` (00_scope.md R11, 41_receive_path.md R153). -/
def State.notifySource (s : State) : State := { s with notifies := s.notifies + 1 }

/-- One call `Sink.write(b)` (00_scope.md R11). -/
def State.handToSink (s : State) (b : Byte) : State := { s with sink := s.sink ++ [b] }

/-- `raise Fault(RX_CONTRACT_VIOLATION)`: the sticky bit is set, nothing else changes (60_exceptions.md R203). -/
def State.raiseRxFault (s : State) : State := { s with faultRx := true }

/-- A refusal recorded by name (60_exceptions.md R204). -/
def State.recordRefusal (s : State) (r : Refusal) : State := { s with refusals := s.refusals ++ [r] }

/-- The phase becomes Destroyed (44_lifecycle.md R193). -/
def State.release (s : State) : State := { s with phase := .destroyed }

/-- Every stored register at its reset value, phase Reset; `fault_rx` and all that was put out keep their values
(44_lifecycle.md R191, R195). -/
def State.applyReset (s : State) : State :=
  { s with
    baud := resetValue .baud
    rx := resetValue .rx
    status := resetValue .status
    delay := resetValue .delay
    control := resetValue .control
    interruptEnable := resetValue .interruptEnable
    iqCycles := resetValue .iqCycles
    rxThreshold := resetValue .rxThreshold
    phase := .reset }

/-! ### Refusing -/

/-- `refuse(name)`: the model takes no step (00_scope.md R11, 60_exceptions.md R204). -/
def refuse (r : Refusal) : Host.Outcome State Fault Refusal := .refused r

/-- A transaction of a live instance; a destroyed one refuses it with DESTROYED before anything else is looked at
(30_encoding.md R85, 44_lifecycle.md R193). Log entry 12. -/
def whenLive (s : State) (k : Host.Outcome State Fault Refusal) : Host.Outcome State Fault Refusal :=
  match s.phase with
  | .reset => k
  | .operating => k
  | .destroyed => refuse .destroyed

/-! ### The operand forms of a CPU access -/

/-- A valid read of a stored read/write register returns `narrow(reg, w)` and changes no register (40_register_access.md R100). -/
def readStored (r : Reg) (w : Width) (s : State) : Host.Outcome State Fault Refusal :=
  whenLive s (.next ((s.respond (.data (narrow (s.reg r) w))).operate))

/-- A valid write of a stored register: `reg <- narrow(wdata, w)` (20_memory.md R65). -/
def writeStored (r : Reg) (w : Width) (wdata : BusWord) (s : State) : Host.Outcome State Fault Refusal :=
  whenLive s (.next ((s.setReg r (narrow wdata w)).operate))

/-- An invalid read: one diagnostic, read data 0, no register changes (40_register_access.md R103, R118, R123). -/
def invalidRead (kind : DiagKind) (off : Word) (w : Width) (s : State) : Host.Outcome State Fault Refusal :=
  whenLive s (.next (((s.emitDiag ⟨kind, .read, off, w⟩).respond (.data 0x00000000#32)).operate))

/-- An invalid write: one diagnostic, no register changes (40_register_access.md R105, R119, R123). -/
def invalidWrite (kind : DiagKind) (off : Word) (w : Width) (s : State) : Host.Outcome State Fault Refusal :=
  whenLive s (.next ((s.emitDiag ⟨kind, .write, off, w⟩).operate))

/-! ### The two paths -/

/-- The byte lands in RX and RX_NOT_EMPTY is set (41_receive_path.md R151). -/
def State.receiveByte (s : State) (b : Byte) : State :=
  (s.setReg .rx (rxWord b)).setReg .status (statusAfterDelivery s.status)

/-- RX_NOT_EMPTY is cleared and the byte source is told it may deliver; RX keeps its value (41_receive_path.md R153). -/
def State.consumeByte (s : State) : State :=
  (s.setReg .status (statusAfterRxRead s.status)).notifySource

/-- The byte is handed to the sink once and TX_FULL is cleared; the sink's answer is ignored: nothing is retried, reported
or kept of it (42_transmit_path.md R170, R171, 60_exceptions.md R202). -/
def State.forwardToSink (s : State) (b : Byte) (_answer : SinkAnswer) : State :=
  (s.handToSink b).setReg .status (statusAfterTxWrite s.status)

/-! ### The bus side of the window -/

/-- The width code a bus access of `n` bytes is described with; a width that is not 1, 2 or 4 has code 11
(20_memory.md R63, 30_encoding.md R82). -/
def szOfBytes (n : Nat) : BitVec 2 :=
  if n = 1 then 0b00#2 else if n = 2 then 0b01#2 else if n = 4 then 0b10#2 else 0b11#2

/-- The transaction a bus access of `n` bytes at bus address `addr` is, if it reaches the block at all: it does when the
address lies in the window, at offset `addr - P_BASE` (00_scope.md R11, 20_memory.md R60). Log entry 7. -/
def busRequest (dir : Dir) (addr n : Nat) (wdata : BusWord) : Option Request :=
  if Config.base ≤ addr ∧ addr < Config.base + Config.regionSize ∧ addr - Config.base < 2 ^ 32 then
    some ⟨packDescriptor 0b00#2 (dirBit dir) (szOfBytes n) 0#3 (BitVec.ofNat 32 (addr - Config.base)),
      match dir with
      | .read => 0#64
      | .write => wdata⟩
  else none

/-- A collaborator presents a transaction: it waits behind those already presented (20_memory.md R73). -/
def State.present (s : State) (q : Request) : State := { s with inbox := s.inbox ++ [q] }

/-- A bus master's access (00_scope.md R11): outside the window nothing reaches the block (20_memory.md R60). -/
def State.busAccess (s : State) (dir : Dir) (addr n : Nat) (wdata : BusWord) : State :=
  match busRequest dir addr n wdata with
  | some q => s.present q
  | none => s

/-- A transaction put before all others: the next one taken. Log entry 11. -/
def State.presentFirst (s : State) (q : Request) : State := { s with inbox := q :: s.inbox }

/-- The transactions left once the next one is taken. -/
def State.withInbox (s : State) (rest : List Request) : State := { s with inbox := rest }

end Sys2Proof.Machine
end

