-- ==== Sys2Proof/Machine/Lifecycle.lean ====
section
/-! DEFINITION. The lifecycle (44_lifecycle.md): RESET, DESTROY, and construction. -/

namespace Sys2Proof.Machine

/-- RESET (R191): accepted from Reset and from Operating; puts nothing out. -/
def execReset (s : State) : Host.Outcome State Fault Refusal := whenLive s (.next s.applyReset)

/-- DESTROY (R193): every later transaction is refused. -/
def execDestroy (s : State) : Host.Outcome State Fault Refusal := whenLive s (.next s.release)

/-- Construction (R190, 70_reset_and_hazards.md R231): the instance is created with every register zero, the backend
`P_BACKEND_ID` is attached, which is no state of the block, and reset is applied. -/
def construct : State := State.created.applyReset

end Sys2Proof.Machine
end

