-- ==== Sys2Proof/Machine/ReceivePath.lean ====
section
/-! DEFINITION. The Receive Path (41_receive_path.md): DELIVER, CAN_ACCEPT, RD_RX. -/

namespace Sys2Proof.Machine

/-- DELIVER: accepted when the backpressure predicate holds in this very step (R151, 20_memory.md R74), else the model
fault RX_CONTRACT_VIOLATION, the byte dropped (R152). Both move the phase (44_lifecycle.md R192). -/
def execDeliver (b : Byte) (s : State) : Host.Outcome State Fault Refusal :=
  whenLive s (if canAccept s then .next (s.receiveByte b).operate else .next s.raiseRxFault.operate)

/-- CAN_ACCEPT (R150): answers the predicate; no state changes, the phase neither. -/
def execCanAccept (s : State) : Host.Outcome State Fault Refusal :=
  whenLive s (.next (s.respond (.accept (canAccept s))))

/-- RD_RX (R153): returns the byte, clears RX_NOT_EMPTY and notifies the byte source, whether or not it was set. -/
def execRdRx (w : Width) (s : State) : Host.Outcome State Fault Refusal :=
  whenLive s (.next ((s.consumeByte.respond (.data (narrow s.rx w))).operate))

end Sys2Proof.Machine
end

