-- ==== Sys2Proof/Machine/Refusals.lean ====
section
/-! DEFINITION. The refused rows (40_register_access.md R120 to R122, 44_lifecycle.md R193): no step, no diagnostic, no
answer (60_exceptions.md R204). A destroyed instance refuses with DESTROYED first (30_encoding.md R85). -/

namespace Sys2Proof.Machine

/-- REFUSED_DESTROYED (44_lifecycle.md R193). -/
def execRefusedDestroyed (_d : Descriptor) (s : State) : Host.Outcome State Fault Refusal :=
  whenLive s (refuse .destroyed)

/-- REFUSED_RESERVED_BITS (R122). -/
def execRefusedReservedBits (_d : Descriptor) (s : State) : Host.Outcome State Fault Refusal :=
  whenLive s (refuse .reservedBits)

/-- REFUSED_WIDTH (R120). -/
def execRefusedWidth (_dir : Dir) (_off : Word) (s : State) : Host.Outcome State Fault Refusal :=
  whenLive s (refuse .badWidth)

/-- REFUSED_WINDOW (R121). -/
def execRefusedWindow (_dir : Dir) (_w : Width) (_off : Word) (s : State) : Host.Outcome State Fault Refusal :=
  whenLive s (refuse .outsideWindow)

/-- REFUSED_FORM (R122). -/
def execRefusedForm (_d : Descriptor) (s : State) : Host.Outcome State Fault Refusal :=
  whenLive s (refuse .badForm)

end Sys2Proof.Machine
end

