-- ==== Sys2Proof/Machine/RegisterAccess.lean ====
section
/-! DEFINITION. The Register Decoder's operations (40_register_access.md), but RD_RX and WR_TX. -/

namespace Sys2Proof.Machine

/-- RD_BAUD (R101). -/
def execRdBaud (w : Width) (s : State) : Host.Outcome State Fault Refusal := readStored .baud w s

/-- RD_STATUS (R106): reading clears nothing. -/
def execRdStatus (w : Width) (s : State) : Host.Outcome State Fault Refusal := readStored .status w s

/-- RD_DELAY (R108). -/
def execRdDelay (w : Width) (s : State) : Host.Outcome State Fault Refusal := readStored .delay w s

/-- RD_CONTROL (R110). -/
def execRdControl (w : Width) (s : State) : Host.Outcome State Fault Refusal := readStored .control w s

/-- RD_IE (R112). -/
def execRdIe (w : Width) (s : State) : Host.Outcome State Fault Refusal := readStored .interruptEnable w s

/-- RD_IQC (R114). -/
def execRdIqc (w : Width) (s : State) : Host.Outcome State Fault Refusal := readStored .iqCycles w s

/-- RD_RXT (R116). -/
def execRdRxt (w : Width) (s : State) : Host.Outcome State Fault Refusal := readStored .rxThreshold w s

/-- WR_BAUD (R102). -/
def execWrBaud (w : Width) (wdata : BusWord) (s : State) : Host.Outcome State Fault Refusal :=
  writeStored .baud w wdata s

/-- WR_STATUS (R107): every bit takes the written value, those the paths manage too. -/
def execWrStatus (w : Width) (wdata : BusWord) (s : State) : Host.Outcome State Fault Refusal :=
  writeStored .status w wdata s

/-- WR_DELAY (R109). -/
def execWrDelay (w : Width) (wdata : BusWord) (s : State) : Host.Outcome State Fault Refusal :=
  writeStored .delay w wdata s

/-- WR_CONTROL (R111). -/
def execWrControl (w : Width) (wdata : BusWord) (s : State) : Host.Outcome State Fault Refusal :=
  writeStored .control w wdata s

/-- WR_IE (R113): masks nothing. -/
def execWrIe (w : Width) (wdata : BusWord) (s : State) : Host.Outcome State Fault Refusal :=
  writeStored .interruptEnable w wdata s

/-- WR_IQC (R115). -/
def execWrIqc (w : Width) (wdata : BusWord) (s : State) : Host.Outcome State Fault Refusal :=
  writeStored .iqCycles w wdata s

/-- WR_RXT (R117). -/
def execWrRxt (w : Width) (wdata : BusWord) (s : State) : Host.Outcome State Fault Refusal :=
  writeStored .rxThreshold w wdata s

/-- RD_TX (R103): read of a write-only register, invalid. -/
def execRdTx (w : Width) (s : State) : Host.Outcome State Fault Refusal :=
  invalidRead .readOfWriteOnly (slotOffset .tx) w s

/-- WR_RX (R105): write of a read-only register, invalid; `wdata` is ignored. -/
def execWrRx (w : Width) (_wdata : BusWord) (s : State) : Host.Outcome State Fault Refusal :=
  invalidWrite .writeOfReadOnly (slotOffset .rx) w s

/-- RD_BADOFF (R118): the offset names no register. -/
def execRdBadoff (w : Width) (off : Word) (s : State) : Host.Outcome State Fault Refusal :=
  invalidRead .badOffset off w s

/-- WR_BADOFF (R119): the offset names no register; `wdata` is ignored. -/
def execWrBadoff (w : Width) (off : Word) (_wdata : BusWord) (s : State) : Host.Outcome State Fault Refusal :=
  invalidWrite .badOffset off w s

end Sys2Proof.Machine
end

