-- ==== Sys2Proof/Machine/TransmitPath.lean ====
section
/-! DEFINITION. The Transmit Path (42_transmit_path.md): WR_TX. -/

namespace Sys2Proof.Machine

/-- WR_TX for a sink that answers `answer` (R170). -/
def writeTx (answer : SinkAnswer) (wdata : BusWord) (s : State) : Host.Outcome State Fault Refusal :=
  whenLive s (.next ((s.forwardToSink (txByte wdata) answer).operate))

/-- WR_TX (R170): `wdata[7:0]` goes to the sink at every width; the sink's answer is a draw (R171). -/
def execWrTx (_w : Width) (wdata : BusWord) (s : State) : Host.Outcome State Fault Refusal :=
  writeTx (Config.sinkAnswer s.sink.length) wdata s

end Sys2Proof.Machine
end

