-- ==== Sys2Proof/Machine/Dispatch.lean ====
section
/-! DEFINITION. The meaning of each instruction, one arm per constructor. -/

namespace Sys2Proof.Machine

/-- What one decoded transaction does. -/
def exec (i : Instr) (s : State) : Host.Outcome State Fault Refusal :=
  match i with
  | .refusedDestroyed d => Sys2Proof.Machine.execRefusedDestroyed d s
  | .refusedReservedBits d => Sys2Proof.Machine.execRefusedReservedBits d s
  | .refusedWidth dir off => Sys2Proof.Machine.execRefusedWidth dir off s
  | .refusedWindow dir w off => Sys2Proof.Machine.execRefusedWindow dir w off s
  | .rdBaud w => Sys2Proof.Machine.execRdBaud w s
  | .rdTx w => Sys2Proof.Machine.execRdTx w s
  | .rdRx w => Sys2Proof.Machine.execRdRx w s
  | .rdStatus w => Sys2Proof.Machine.execRdStatus w s
  | .rdDelay w => Sys2Proof.Machine.execRdDelay w s
  | .rdControl w => Sys2Proof.Machine.execRdControl w s
  | .rdIe w => Sys2Proof.Machine.execRdIe w s
  | .rdIqc w => Sys2Proof.Machine.execRdIqc w s
  | .rdRxt w => Sys2Proof.Machine.execRdRxt w s
  | .wrBaud w wdata => Sys2Proof.Machine.execWrBaud w wdata s
  | .wrTx w wdata => Sys2Proof.Machine.execWrTx w wdata s
  | .wrRx w wdata => Sys2Proof.Machine.execWrRx w wdata s
  | .wrStatus w wdata => Sys2Proof.Machine.execWrStatus w wdata s
  | .wrDelay w wdata => Sys2Proof.Machine.execWrDelay w wdata s
  | .wrControl w wdata => Sys2Proof.Machine.execWrControl w wdata s
  | .wrIe w wdata => Sys2Proof.Machine.execWrIe w wdata s
  | .wrIqc w wdata => Sys2Proof.Machine.execWrIqc w wdata s
  | .wrRxt w wdata => Sys2Proof.Machine.execWrRxt w wdata s
  | .deliver b => Sys2Proof.Machine.execDeliver b s
  | .canAccept => Sys2Proof.Machine.execCanAccept s
  | .reset => Sys2Proof.Machine.execReset s
  | .destroy => Sys2Proof.Machine.execDestroy s
  | .rdBadoff w off => Sys2Proof.Machine.execRdBadoff w off s
  | .wrBadoff w off wdata => Sys2Proof.Machine.execWrBadoff w off wdata s
  | .refusedForm d => Sys2Proof.Machine.execRefusedForm d s

end Sys2Proof.Machine
end

