-- ==== Sys2Proof/Machine/Transact.lean ====
section
/-! DEFINITION. Taking the next transaction: what a step does around a meaning. -/

namespace Sys2Proof.Machine

/-- What the block makes of an outcome. A refused transaction changes nothing of the block; its refusal is recorded by
name for the whole run, which goes on (60_exceptions.md R204, R205). Log entry 4. -/
def settleOutcome (s : State) (o : Host.Outcome State Fault Refusal) : Host.Outcome State Fault Refusal :=
  match o with
  | .next t => .next t
  | .fault f => .fault f
  | .refused r => .next (s.recordRefusal r)

/-- One transaction presented to the block in state `s`: decoded as R85 says, then run as one atomic step
(00_scope.md R12, 20_memory.md R72). -/
def transact (q : Request) (s : State) : Host.Outcome State Fault Refusal :=
  settleOutcome s (exec (decode s.phase Config.regionSize q) s)

/-- The next transaction presented is taken and run; with none presented nothing happens, since the block acts only
inside a transaction (60_exceptions.md R213). Log entry 2. -/
def takeNext (s : State) : Host.Outcome State Fault Refusal :=
  match s.inbox with
  | [] => .next s
  | q :: rest => transact q (s.withInbox rest)

end Sys2Proof.Machine
end

