-- ==== Sys2Proof/Machine/Step.lean ====
section
/-! DEFINITION. One step of the block, and how a transaction is placed so that the next step runs it. -/

namespace Sys2Proof.Machine

/-- One step: one transaction (00_scope.md R12). -/
def step (s : State) : Host.Outcome State Fault Refusal := takeNext s

/-- `s` with the transaction whose bits are `w` presented first, so that the next step runs it. Log entry 11. -/
def State.withFetchWord (s : State) (nbits w : Nat) : State := s.presentFirst (requestOfWord nbits w)

end Sys2Proof.Machine
end

