-- ==== Sys2Proof/WellFormed.lean ====
section
/-! DEFINITION. When an instruction is one the decoder can answer in a phase, for a window of `region` bytes. -/

namespace Sys2Proof

/-- Well-formed: the instruction's own conditions of 30_encoding.md R85 hold. REFUSED_DESTROYED is answered in phase
Destroyed and nowhere else; every other row needs a phase that is not Destroyed. -/
def WellFormed (ph : Phase) (region : Nat) (i : Instr) : Bool :=
  match i with
  | .refusedDestroyed _ => decide (ph = .destroyed)
  | .refusedReservedBits d => decide (ph ≠ .destroyed) && decide (descRsv d ≠ 0#3)
  | .refusedWidth _ _ => decide (ph ≠ .destroyed)
  | .refusedWindow _ _ off => decide (ph ≠ .destroyed) && decide (region ≤ off.toNat)
  | .rdBaud _ => decide (ph ≠ .destroyed)
  | .rdTx _ => decide (ph ≠ .destroyed)
  | .rdRx _ => decide (ph ≠ .destroyed)
  | .rdStatus _ => decide (ph ≠ .destroyed)
  | .rdDelay _ => decide (ph ≠ .destroyed)
  | .rdControl _ => decide (ph ≠ .destroyed)
  | .rdIe _ => decide (ph ≠ .destroyed)
  | .rdIqc _ => decide (ph ≠ .destroyed)
  | .rdRxt _ => decide (ph ≠ .destroyed)
  | .wrBaud _ _ => decide (ph ≠ .destroyed)
  | .wrTx _ _ => decide (ph ≠ .destroyed)
  | .wrRx _ _ => decide (ph ≠ .destroyed)
  | .wrStatus _ _ => decide (ph ≠ .destroyed)
  | .wrDelay _ _ => decide (ph ≠ .destroyed)
  | .wrControl _ _ => decide (ph ≠ .destroyed)
  | .wrIe _ _ => decide (ph ≠ .destroyed)
  | .wrIqc _ _ => decide (ph ≠ .destroyed)
  | .wrRxt _ _ => decide (ph ≠ .destroyed)
  | .deliver _ => decide (ph ≠ .destroyed)
  | .canAccept => decide (ph ≠ .destroyed)
  | .reset => decide (ph ≠ .destroyed)
  | .destroy => decide (ph ≠ .destroyed)
  | .rdBadoff _ off => decide (ph ≠ .destroyed) && decide (off.toNat < region ∧ off ∉ validOffsets)
  | .wrBadoff _ off _ => decide (ph ≠ .destroyed) && decide (off.toNat < region ∧ off ∉ validOffsets)
  | .refusedForm d =>
    decide (ph ≠ .destroyed) && decide (descRsv d = 0#3 ∧ descPort d ≠ 0b00#2 ∧
      d ∉ [deliverDesc, canAcceptDesc, resetDesc, destroyDesc])

end Sys2Proof
end

