-- ==== Sys2Proof/Safety.lean ====
section
/-! DEFINITION. The terms claims are stated in: what stays unchanged, sequences of transactions, what a collaborator owes
the block, and the invariant of a state. -/

namespace Sys2Proof.Machine

/-! ### Frames -/

/-- The instance has not been destroyed: the entry condition of every operation (40_register_access.md). -/
abbrev Live (s : State) : Prop := s.phase ≠ .destroyed

/-- Every stored register is unchanged. -/
def SameRegs (s t : State) : Prop := ∀ r, t.reg r = s.reg r

/-- Every stored register but `r` is unchanged. -/
def SameRegsBut (r : Reg) (s t : State) : Prop := ∀ q, q ≠ r → t.reg q = s.reg q

/-- Nothing was put out: no answer, no byte to the sink, no AcceptNotify, no diagnostic. -/
def SameOutputs (s t : State) : Prop :=
  t.responses = s.responses ∧ t.sink = s.sink ∧ t.notifies = s.notifies ∧ t.diags = s.diags

/-- The model's bookkeeping is unchanged: the sticky fault, the refusals recorded, what is presented. -/
def SameRecord (s t : State) : Prop :=
  t.faultRx = s.faultRx ∧ t.refusals = s.refusals ∧ t.inbox = s.inbox

/-! ### Sequences of transactions (20_memory.md R73: every order is a list) -/

/-- The instruction a request is for a block in state `s`. -/
def instrOf (q : Request) (s : State) : Instr := decode s.phase Config.regionSize q

/-- The state after one request. -/
def serve (q : Request) (s : State) : State :=
  match transact q s with
  | .next t => t
  | .fault _ => s
  | .refused _ => s

/-- The state after a sequence of requests. -/
def serveAll (qs : List Request) (s : State) : State :=
  match qs with
  | [] => s
  | q :: rest => serveAll rest (serve q s)

/-- The instructions a sequence of requests is, each decoded in the state it finds. -/
def trace (qs : List Request) (s : State) : List Instr :=
  match qs with
  | [] => []
  | q :: rest => instrOf q s :: trace rest (serve q s)

/-- WR_STATUS. -/
def isStatusWrite (i : Instr) : Bool :=
  match i with
  | .wrStatus _ _ => true
  | _ => false

/-- DELIVER. -/
def isDeliver (i : Instr) : Bool :=
  match i with
  | .deliver _ => true
  | _ => false

/-- RD_RX. -/
def isRxRead (i : Instr) : Bool :=
  match i with
  | .rdRx _ => true
  | _ => false

/-- RESET. -/
def isReset (i : Instr) : Bool :=
  match i with
  | .reset => true
  | _ => false

/-- RD_RX or RESET: what ends a pending byte where no STATUS write does (43_interrupt_evaluator.md R182). -/
def endsPending (i : Instr) : Bool := isRxRead i || isReset i

/-- No STATUS write among the transactions: the premise of conflicts C3 and C4. -/
def NoStatusWrite (qs : List Request) (s : State) : Prop := ∀ i ∈ trace qs s, isStatusWrite i = false

/-- No RESET among the transactions. -/
def NoReset (qs : List Request) (s : State) : Prop := ∀ i ∈ trace qs s, isReset i = false

/-- No DELIVER among the transactions. -/
def NoDeliver (qs : List Request) (s : State) : Prop := ∀ i ∈ trace qs s, isDeliver i = false

/-- The byte a WR_TX hands to the sink. -/
def sentByte (i : Instr) : Option Byte :=
  match i with
  | .wrTx _ wdata => some (txByte wdata)
  | _ => none

/-- The low bytes of the valid TX writes of a sequence, in order. -/
def sentBytes (qs : List Request) (s : State) : List Byte := (trace qs s).filterMap sentByte

/-- The byte an accepted DELIVER stores. -/
def acceptedByte (i : Instr) (s : State) : Option Byte :=
  match i with
  | .deliver b => if canAccept s then some b else none
  | _ => none

/-- The bytes a sequence of requests delivers and the block accepts, in order. -/
def acceptedBytes (qs : List Request) (s : State) : List Byte :=
  match qs with
  | [] => []
  | q :: rest => (acceptedByte (instrOf q s) s).toList ++ acceptedBytes rest (serve q s)

/-- The pending byte, if there is one: STATUS bit 2 is its only witness (10_state.md R35). -/
def pendingBytes (s : State) : List Byte := if irq s then [rxByte s.rx] else []

/-- The pending byte an RX read takes. -/
def consumedByte (i : Instr) (s : State) : List Byte :=
  match i with
  | .rdRx _ => pendingBytes s
  | _ => []

/-- The pending bytes a sequence of requests takes by RX reads, in order. -/
def consumedBytes (qs : List Request) (s : State) : List Byte :=
  match qs with
  | [] => []
  | q :: rest => consumedByte (instrOf q s) s ++ consumedBytes rest (serve q s)

/-- How often the interrupt level goes from 0 to 1 along a sequence. -/
def rises (qs : List Request) (s : State) : Nat :=
  match qs with
  | [] => 0
  | q :: rest => (if !(irq s) && irq (serve q s) then 1 else 0) + rises rest (serve q s)

/-! ### Duties (60_exceptions.md R214) -/

/-- The byte source's duty: no DELIVER while `can_accept` is false (41_receive_path.md R154). -/
def SourceObeys (qs : List Request) (s : State) : Prop :=
  match qs with
  | [] => True
  | q :: rest => (isDeliver (instrOf q s) = true → canAccept s = true) ∧ SourceObeys rest (serve q s)

/-- A run the claims about flow control are about: no contract broken, nothing refused (R203, R204). -/
def CleanRun (s : State) : Prop := s.faultRx = false ∧ s.refusals = []

/-! ### Who may write what -/

/-- Which instructions may change a stored register (10_state.md R50). -/
def mayWrite (i : Instr) (r : Reg) : Bool :=
  match i with
  | .reset => true
  | .wrBaud _ _ => decide (r = .baud)
  | .wrStatus _ _ => decide (r = .status)
  | .wrDelay _ _ => decide (r = .delay)
  | .wrControl _ _ => decide (r = .control)
  | .wrIe _ _ => decide (r = .interruptEnable)
  | .wrIqc _ _ => decide (r = .iqCycles)
  | .wrRxt _ _ => decide (r = .rxThreshold)
  | .deliver _ => decide (r = .rx ∨ r = .status)
  | .rdRx _ => decide (r = .status)
  | .wrTx _ _ => decide (r = .status)
  | _ => false

/-- Which instructions may change bit `n` of STATUS (10_state.md R25). -/
def mayChangeStatusBit (i : Instr) (n : Nat) : Bool :=
  match i with
  | .wrStatus _ _ => true
  | .reset => true
  | .deliver _ => decide (n = rxNotEmptyBit)
  | .rdRx _ => decide (n = rxNotEmptyBit)
  | .wrTx _ _ => decide (n = txFullBit)
  | _ => false

/-- A CPU access, valid or invalid, or a DELIVER: what moves phase Reset to Operating (44_lifecycle.md R192). -/
def movesPhase (i : Instr) : Bool :=
  match i with
  | .rdBaud _ => true
  | .rdTx _ => true
  | .rdRx _ => true
  | .rdStatus _ => true
  | .rdDelay _ => true
  | .rdControl _ => true
  | .rdIe _ => true
  | .rdIqc _ => true
  | .rdRxt _ => true
  | .wrBaud _ _ => true
  | .wrTx _ _ => true
  | .wrRx _ _ => true
  | .wrStatus _ _ => true
  | .wrDelay _ _ => true
  | .wrControl _ _ => true
  | .wrIe _ _ => true
  | .wrIqc _ _ => true
  | .wrRxt _ _ => true
  | .deliver _ => true
  | .rdBadoff _ _ => true
  | .wrBadoff _ _ _ => true
  | .refusedDestroyed _ => false
  | .refusedReservedBits _ => false
  | .refusedWidth _ _ => false
  | .refusedWindow _ _ _ => false
  | .refusedForm _ => false
  | .canAccept => false
  | .reset => false
  | .destroy => false

/-- A refused row of the table. -/
def isRefusedRow (i : Instr) : Bool :=
  match i with
  | .refusedDestroyed _ => true
  | .refusedReservedBits _ => true
  | .refusedWidth _ _ => true
  | .refusedWindow _ _ _ => true
  | .refusedForm _ => true
  | _ => false

/-- The diagnostic an invalid access emits (60_exceptions.md R201). -/
def invalidDiag (i : Instr) : Option Diag :=
  match i with
  | .rdTx w => some ⟨.readOfWriteOnly, .read, 0x04#32, w⟩
  | .wrRx w _ => some ⟨.writeOfReadOnly, .write, 0x08#32, w⟩
  | .rdBadoff w off => some ⟨.badOffset, .read, off, w⟩
  | .wrBadoff w off _ => some ⟨.badOffset, .write, off, w⟩
  | _ => none

/-! ### Shapes of instruction that claims are stated for, instruction by instruction -/

/-- A read of width `w` at `off`, whatever payload stands beside it, is `mk w` (30_encoding.md R86: `(sz << 35) | off`). -/
def ReadEncodes (off : Word) (w : Width) (s : State) (i : Instr) : Prop :=
  ∀ payload, instrOf ⟨((szOfWidth w).setWidth 40 <<< 35) ||| off.setWidth 40, payload⟩ s = i

/-- A write of width `w` at `off` of `wdata` is `i` (30_encoding.md R86: `0x2000000000 | (sz << 35) | off`). -/
def WriteEncodes (off : Word) (w : Width) (wdata : BusWord) (s : State) (i : Instr) : Prop :=
  instrOf ⟨0x2000000000#40 ||| ((szOfWidth w).setWidth 40 <<< 35) ||| off.setWidth 40, wdata⟩ s = i

/-- `mk` reads the stored register `r` at `off`: on every live instance it completes, answers `narrow(reg, w)`, and leaves
all else but the phase as it was; right after a RESET it answers `narrow` of the reset value. -/
def ReadsRegister (r : Reg) (off : Word) (mk : Width → Instr) : Prop :=
  ∀ (w : Width) (s : State), Live s →
    ReadEncodes off w s (mk w) ∧
    (∃ t, exec (mk w) s = .next t ∧
      t.responses = s.responses ++ [.data (narrow (s.reg r) w)] ∧
      SameRegs s t ∧ t.phase = .operating ∧
      t.sink = s.sink ∧ t.notifies = s.notifies ∧ t.diags = s.diags ∧ SameRecord s t) ∧
    (∃ t u, exec .reset s = .next t ∧ exec (mk w) t = .next u ∧
      u.responses = t.responses ++ [.data (narrow (resetValue r) w)])

/-- `mk` writes the stored register `r`, not STATUS, at `off`: on every live instance it completes, the register becomes
`narrow(wdata, w)`, and all else but the phase stays as it was, `irq` and `can_accept` too. -/
def WritesRegister (r : Reg) (off : Word) (mk : Width → BusWord → Instr) : Prop :=
  ∀ (w : Width) (wdata : BusWord) (s : State), Live s →
    WriteEncodes off w wdata s (mk w wdata) ∧
    ∃ t, exec (mk w wdata) s = .next t ∧
      t.reg r = narrow wdata w ∧ SameRegsBut r s t ∧ t.phase = .operating ∧
      SameOutputs s t ∧ SameRecord s t ∧ irq t = irq s ∧ canAccept t = canAccept s

/-- `i` is an invalid access that emits `d` and answers `answer`: on every live instance it completes and changes nothing
else but the phase (40_register_access.md R123). -/
def InvalidAccess (i : Instr) (d : Diag) (answer : List Response) : Prop :=
  ∀ s, Live s →
    ∃ t, exec i s = .next t ∧
      t.diags = s.diags ++ [d] ∧ t.responses = s.responses ++ answer ∧
      SameRegs s t ∧ t.phase = .operating ∧
      t.sink = s.sink ∧ t.notifies = s.notifies ∧ SameRecord s t ∧ irq t = irq s ∧ canAccept t = canAccept s

/-- A write of width `w` and a later read of width `k`: the read answers what both widths leave (20_memory.md R66). -/
def ReadsBackWritten (mkWrite : Width → BusWord → Instr) (mkRead : Width → Instr) : Prop :=
  ∀ (w k : Width) (wdata : BusWord) (s : State), Live s →
    ∃ t u, exec (mkWrite w wdata) s = .next t ∧ exec (mkRead k) t = .next u ∧
      u.responses = s.responses ++ [.data (narrow (narrow wdata w) k)]

/-- Reading `r` with a 4-byte read and writing the value straight back changes no register (40_register_access.md R124). -/
def WriteBackIsNeutral (r : Reg) (mkWrite : Width → BusWord → Instr) (mkRead : Width → Instr) : Prop :=
  ∀ s, Live s →
    ∃ t v u, exec (mkRead .four) s = .next t ∧ t.responses = s.responses ++ [.data v] ∧
      exec (mkWrite .four (v.setWidth 64)) t = .next u ∧ SameRegs s u ∧ u.reg r = v

/-- Writing the same value twice leaves the state that writing it once left (20_memory.md R71). -/
def WriteIsIdempotent (mkWrite : Width → BusWord → Instr) : Prop :=
  ∀ (w : Width) (wdata : BusWord) (s : State), Live s →
    ∃ t, exec (mkWrite w wdata) s = .next t ∧ exec (mkWrite w wdata) t = .next t

/-- Two states of the same block: registers, phase, fault flag. What was put out and what is presented may differ. -/
def SameBlock (s t : State) : Prop := SameRegs s t ∧ t.phase = s.phase ∧ t.faultRx = s.faultRx

/-- The register that only stores a value and whose own read an instruction is (00_scope.md R5). -/
def passthroughRead (i : Instr) : Option Reg :=
  match i with
  | .rdBaud _ => some .baud
  | .rdDelay _ => some .delay
  | .rdControl _ => some .control
  | .rdIe _ => some .interruptEnable
  | .rdIqc _ => some .iqCycles
  | .rdRxt _ => some .rxThreshold
  | .rdTx _ => none
  | .rdRx _ => none
  | .rdStatus _ => none
  | .wrBaud _ _ => none
  | .wrTx _ _ => none
  | .wrRx _ _ => none
  | .wrStatus _ _ => none
  | .wrDelay _ _ => none
  | .wrControl _ _ => none
  | .wrIe _ _ => none
  | .wrIqc _ _ => none
  | .wrRxt _ _ => none
  | .deliver _ => none
  | .canAccept => none
  | .reset => none
  | .destroy => none
  | .rdBadoff _ _ => none
  | .wrBadoff _ _ _ => none
  | .refusedDestroyed _ => none
  | .refusedReservedBits _ => none
  | .refusedWidth _ _ => none
  | .refusedWindow _ _ _ => none
  | .refusedForm _ => none

/-- Two steps give the same answers: each appends one list to its answers. -/
def SameAnswers (s t u v : State) : Prop := ∃ l, t.responses = s.responses ++ l ∧ v.responses = u.responses ++ l

/-- Two states that agree on all but the registers that only store: RX, STATUS, the phase, the fault flag, and what was
put out beside read data. The answers of a step from each are compared by `SameAnswers`. -/
def SameButStores (s t : State) : Prop :=
  t.rx = s.rx ∧ t.status = s.status ∧ t.phase = s.phase ∧ t.faultRx = s.faultRx ∧
  t.sink = s.sink ∧ t.notifies = s.notifies ∧ t.diags = s.diags

/-! ### The invariant -/

/-- A diagnostic that names a real invalid access: an offset inside the window outside V, a read of TX or a write of RX
(60_exceptions.md R201). -/
def DiagLegal (d : Diag) : Prop :=
  match d.kind with
  | .badOffset => d.off ∉ validOffsets ∧ d.off.toNat < Config.regionSize
  | .readOfWriteOnly => d.dir = .read ∧ d.off = 0x04#32
  | .writeOfReadOnly => d.dir = .write ∧ d.off = 0x08#32

/-- The invariant every step keeps: RX holds one zero-extended byte (10_state.md R24); every diagnostic names a real
invalid access (60_exceptions.md R201); in phase Reset every register still has its reset value (44_lifecycle.md R191,
R192). -/
def Inv (s : State) : Prop :=
  s.rx.toNat < 256 ∧ (∀ d ∈ s.diags, DiagLegal d) ∧ (s.phase = .reset → ∀ r, s.reg r = resetValue r)

end Sys2Proof.Machine
end

