-- ==== Sys2Proof/Certificates/Slice0/Obligations.lean ====
section
/-! DEFINITION. The statements for the provers, each over every state and every operand. -/

open Sys2Proof Sys2Proof.Machine

/-! ### Decoding and encoding -/

/-- A step takes the transaction presented first and runs what it decodes to, which is well-formed, in the state with that
transaction taken; a refusal is recorded by name and the run goes on (log entry 4); with nothing presented nothing changes
(log entry 2). 00_scope.md R12, 30_encoding.md R85, 60_exceptions.md R204. -/
def Obligations.StepRunsTheDecodedTransaction : Prop :=
  (∀ (s : State) (q : Request) (rest : List Request), s.inbox = q :: rest →
    WellFormed s.phase Config.regionSize (decode s.phase Config.regionSize q) = true ∧
    step s =
      match exec (decode s.phase Config.regionSize q) { s with inbox := rest } with
      | .next t => .next t
      | .fault f => .fault f
      | .refused r => .next { s with inbox := rest, refusals := s.refusals ++ [r] }) ∧
  (∀ s : State, s.inbox = [] → step s = .next s)

/-- A few words of 95_test_vectors.md decode to the rows it names, in a window of 0x1000 bytes. -/
def Obligations.WordsOfTheTestVectorsDecode : Prop :=
  decode .reset 0x1000 ⟨0x3000000000#40, 0x200#64⟩ = .wrBaud .four 0x200#64 ∧
  decode .operating 0x1000 ⟨0x0000000008#40, 0#64⟩ = .rdRx .one ∧
  decode .operating 0x1000 ⟨0x6000000000#40, 0x41#64⟩ = .deliver 0x41#8 ∧
  decode .operating 0x1000 ⟨0xC000000000#40, 0#64⟩ = .canAccept ∧
  decode .operating 0x1000 ⟨0x100000000B#40, 0#64⟩ = .rdBadoff .four 0x0B#32 ∧
  decode .operating 0x1000 ⟨0x1000001000#40, 0#64⟩ = .refusedWindow .read .four 0x1000#32 ∧
  decode .operating 0x1000 ⟨0x1100000000#40, 0#64⟩ = .refusedReservedBits 0x1100000000#40 ∧
  decode .operating 0x1000 ⟨0x8800000000#40, 0#64⟩ = .refusedForm 0x8800000000#40

/-- Decoding an encoded well-formed instruction gives it back, for every window that holds the nine slots. The encoding is
the spec's own (92_eei_decisions.md D2). -/
def Obligations.DecodeOfEncodeIsTheInstruction : Prop :=
  ∀ (ph : Phase) (region : Nat) (i : Instr), 0x24 ≤ region → WellFormed ph region i = true →
    decode ph region (encode i) = i

/-- Encoding what a request decodes to gives its descriptor back, whole, and of its payload what its kind carries: no bit is
dropped and no two descriptors become one instruction. -/
def Obligations.EncodeOfDecodeKeepsTheDescriptor : Prop :=
  ∀ (ph : Phase) (region : Nat) (q : Request),
    (encode (decode ph region q)).desc = q.desc ∧
    (encode (decode ph region q)).payload = carriedPayload (decode ph region q) q.payload

/-- The decoder answers well-formed instructions only. -/
def Obligations.DecodedInstructionsAreWellFormed : Prop :=
  ∀ (ph : Phase) (region : Nat) (q : Request), WellFormed ph region (decode ph region q) = true

/-- The decoder answers the row of spec/opcode_table.json that matches first, in the table's order of priority (30_encoding.md
R90, which marks the table as the spec's own, D2). -/
def Obligations.DecoderAnswersTheFirstMatchingRow : Prop :=
  ∀ (ph : Phase) (region : Nat) (q : Request), 0x24 ≤ region →
    (opcodeTable.find? fun r => rowMatches r ph region q.desc).map OpcodeRow.name = some (mnemonic (decode ph region q))

/-- A bus access inside the window reaches the block as the CPU access at `addr - P_BASE`, and one outside never does
(20_memory.md R60). An offset of 2^32 or more, which a descriptor cannot hold, counts as outside (log entry 7). -/
def Obligations.BusAccessesReachTheWindowOnly : Prop :=
  0x24 ≤ Config.regionSize ∧
  ∀ (dir : Dir) (addr n : Nat) (wdata : BusWord) (s : State),
    (Config.base ≤ addr ∧ addr < Config.base + Config.regionSize ∧ addr - Config.base < 2 ^ 32 →
      ∃ q, s.busAccess dir addr n wdata = { s with inbox := s.inbox ++ [q] } ∧
        descPort q.desc = 0b00#2 ∧ descDir q.desc = dir ∧ descRsv q.desc = 0#3 ∧
        (descOff q.desc).toNat = addr - Config.base ∧
        widthOfSz (descSz q.desc) =
          (if n = 1 then some .one else if n = 2 then some .two else if n = 4 then some .four else none) ∧
        (dir = .write → q.payload = wdata)) ∧
    (¬ (Config.base ≤ addr ∧ addr < Config.base + Config.regionSize ∧ addr - Config.base < 2 ^ 32) →
      s.busAccess dir addr n wdata = s)

/-! ### Widths -/

/-- `narrow` keeps the low `8*w` bits and zeroes the others: what a narrow read returns and a narrow write stores. Both are the
spec's own decisions (20_memory.md R64, R65; 92_eei_decisions.md D3, D4; log entry 14). -/
def Obligations.NarrowKeepsTheLowBitsOnly : Prop :=
  ∀ (n : Nat) (v : BitVec n) (w : Width) (k : Nat),
    (narrow v w).getLsbD k =
      (decide (k < 8 * (match w with | .one => 1 | .two => 2 | .four => 4)) && v.getLsbD k)

/-- A write and then a read of the same register answer what both widths leave, for each of the seven registers both
directions reach (the inference 20_memory.md marks as R66). -/
def Obligations.ReadsBackThroughBothWidths : Prop :=
  ReadsBackWritten .wrBaud .rdBaud ∧ ReadsBackWritten .wrStatus .rdStatus ∧ ReadsBackWritten .wrDelay .rdDelay ∧
  ReadsBackWritten .wrControl .rdControl ∧ ReadsBackWritten .wrIe .rdIe ∧ ReadsBackWritten .wrIqc .rdIqc ∧
  ReadsBackWritten .wrRxt .rdRxt

/-! ### The Register Decoder -/

/-- RD_BAUD, RD_STATUS, RD_DELAY, RD_CONTROL, RD_IE, RD_IQC, RD_RXT: encoding, result, frame and completion (R101, R106, R108,
R110, R112, R114, R116). What a narrow read returns is `narrow` as those rules write it. -/
def Obligations.StoredRegistersReadAsTheyStand : Prop :=
  ReadsRegister .baud 0x00#32 .rdBaud ∧ ReadsRegister .status 0x0C#32 .rdStatus ∧
  ReadsRegister .delay 0x10#32 .rdDelay ∧ ReadsRegister .control 0x14#32 .rdControl ∧
  ReadsRegister .interruptEnable 0x18#32 .rdIe ∧ ReadsRegister .iqCycles 0x1C#32 .rdIqc ∧
  ReadsRegister .rxThreshold 0x20#32 .rdRxt

/-- WR_BAUD, WR_DELAY, WR_CONTROL, WR_IE, WR_IQC, WR_RXT: encoding, result, frame and completion (R102, R109, R111, R113, R115,
R117). -/
def Obligations.StoredRegistersTakeTheWrittenValue : Prop :=
  WritesRegister .baud 0x00#32 .wrBaud ∧ WritesRegister .delay 0x10#32 .wrDelay ∧
  WritesRegister .control 0x14#32 .wrControl ∧ WritesRegister .interruptEnable 0x18#32 .wrIe ∧
  WritesRegister .iqCycles 0x1C#32 .wrIqc ∧ WritesRegister .rxThreshold 0x20#32 .wrRxt

/-- WR_STATUS: every bit takes the written value, the level and the predicate follow, no AcceptNotify is emitted and RX keeps
its value; writing the current value changes no register (R107). -/
def Obligations.StatusWriteSetsEveryBit : Prop :=
  ∀ (w : Width) (wdata : BusWord) (s : State), Live s →
    WriteEncodes 0x0C#32 w wdata s (.wrStatus w wdata) ∧
    ∃ t, exec (.wrStatus w wdata) s = .next t ∧
      t.status = narrow wdata w ∧ SameRegsBut .status s t ∧ t.phase = .operating ∧
      SameOutputs s t ∧ SameRecord s t ∧
      irq t = (narrow wdata w).getLsbD 2 ∧ canAccept t = !(narrow wdata w).getLsbD 2 ∧
      (narrow wdata w = s.status → SameRegs s t)

/-- RD_TX: an invalid access at every width; nothing is sent and TX_FULL is not cleared (R103). -/
def Obligations.ReadOfTxIsInvalid : Prop :=
  ∀ w : Width, (∀ s, Live s → ReadEncodes 0x04#32 w s (.rdTx w)) ∧
    InvalidAccess (.rdTx w) ⟨.readOfWriteOnly, .read, 0x04#32, w⟩ [.data 0x00000000#32]

/-- WR_RX: an invalid access at every width; a write of RX neither consumes nor injects a pending byte (R105). -/
def Obligations.WriteOfRxIsInvalid : Prop :=
  ∀ (w : Width) (wdata : BusWord), (∀ s, Live s → WriteEncodes 0x08#32 w wdata s (.wrRx w wdata)) ∧
    InvalidAccess (.wrRx w wdata) ⟨.writeOfReadOnly, .write, 0x08#32, w⟩ []

/-- RD_BADOFF: a read inside the window at an offset outside V answers 0 and emits one diagnostic (R118). -/
def Obligations.ReadOfABadOffsetIsInvalid : Prop :=
  ∀ (w : Width) (off : Word), off.toNat < Config.regionSize → off ∉ validOffsets →
    (∀ s, Live s → ReadEncodes off w s (.rdBadoff w off)) ∧
    InvalidAccess (.rdBadoff w off) ⟨.badOffset, .read, off, w⟩ [.data 0x00000000#32]

/-- WR_BADOFF: a write inside the window at an offset outside V emits one diagnostic and does nothing else (R119). -/
def Obligations.WriteOfABadOffsetIsInvalid : Prop :=
  ∀ (w : Width) (off : Word) (wdata : BusWord), off.toNat < Config.regionSize → off ∉ validOffsets →
    (∀ s, Live s → WriteEncodes off w wdata s (.wrBadoff w off wdata)) ∧
    InvalidAccess (.wrBadoff w off wdata) ⟨.badOffset, .write, off, w⟩ []

/-- A diagnostic is emitted by an invalid access, exactly one, and by no other transaction (60_exceptions.md R201, R209). -/
def Obligations.DiagnosticsComeFromInvalidAccessesOnly : Prop :=
  ∀ (i : Instr) (s t : State), exec i s = .next t → t.diags = s.diags ++ (invalidDiag i).toList

/-- Reading a register and writing the value straight back changes no register (the inference 40_register_access.md marks as
R124). -/
def Obligations.WriteBackOfAReadValueChangesNothing : Prop :=
  WriteBackIsNeutral .baud .wrBaud .rdBaud ∧ WriteBackIsNeutral .status .wrStatus .rdStatus ∧
  WriteBackIsNeutral .delay .wrDelay .rdDelay ∧ WriteBackIsNeutral .control .wrControl .rdControl ∧
  WriteBackIsNeutral .interruptEnable .wrIe .rdIe ∧ WriteBackIsNeutral .iqCycles .wrIqc .rdIqc ∧
  WriteBackIsNeutral .rxThreshold .wrRxt .rdRxt

/-- Writing the same value twice to a register other than TX leaves the state that writing it once left; each TX write sends one
more byte (20_memory.md R71). -/
def Obligations.WritesAreIdempotentExceptTx : Prop :=
  (WriteIsIdempotent .wrBaud ∧ WriteIsIdempotent .wrStatus ∧ WriteIsIdempotent .wrDelay ∧ WriteIsIdempotent .wrControl ∧
    WriteIsIdempotent .wrIe ∧ WriteIsIdempotent .wrIqc ∧ WriteIsIdempotent .wrRxt) ∧
  ∀ (w : Width) (wdata : BusWord) (s : State), Live s →
    ∃ t u, exec (.wrTx w wdata) s = .next t ∧ exec (.wrTx w wdata) t = .next u ∧
      t.sink.length = s.sink.length + 1 ∧ u.sink.length = s.sink.length + 2

/-! ### The Receive Path -/

/-- RD_RX: answers the byte, clears RX_NOT_EMPTY alone, keeps RX, notifies the source once, whether or not the bit was set (R153;
that every read notifies is the spec's own choice, 92_eei_decisions.md D9). -/
def Obligations.RxReadConsumesTheByte : Prop :=
  ∀ (w : Width) (s : State), Live s →
    ReadEncodes 0x08#32 w s (.rdRx w) ∧
    ∃ t, exec (.rdRx w) s = .next t ∧
      t.responses = s.responses ++ [.data (narrow s.rx w)] ∧
      (∀ n, t.status.getLsbD n = (s.status.getLsbD n && decide (n ≠ 2))) ∧
      SameRegsBut .status s t ∧ t.notifies = s.notifies + 1 ∧ t.phase = .operating ∧
      t.sink = s.sink ∧ t.diags = s.diags ∧ SameRecord s t ∧ irq t = false ∧ canAccept t = true

/-- DELIVER while the predicate holds: the byte lands in RX, zero-extended (the spec's own choice, D8), RX_NOT_EMPTY alone is set,
the level rises (R151). -/
def Obligations.DeliveryIsAcceptedWhenTheBitIsClear : Prop :=
  ∀ (b : Byte) (s : State), Live s → canAccept s = true →
    instrOf ⟨0x6000000000#40, b.setWidth 64⟩ s = .deliver b ∧
    ∃ t, exec (.deliver b) s = .next t ∧
      t.rx = b.setWidth 32 ∧
      (∀ n, t.status.getLsbD n = (s.status.getLsbD n || decide (n = 2))) ∧
      (∀ r, r ≠ .rx → r ≠ .status → t.reg r = s.reg r) ∧ t.phase = .operating ∧
      SameOutputs s t ∧ SameRecord s t ∧ irq t = true ∧ canAccept t = false

/-- DELIVER while the predicate is false: the sticky model fault is set, the byte is dropped, nothing else changes but the phase
(R152; the spec's own choice, D10, log entry 5). -/
def Obligations.DeliveryWhileFullOnlySetsTheFault : Prop :=
  ∀ (b : Byte) (s : State), Live s → canAccept s = false →
    ∃ t, exec (.deliver b) s = .next t ∧
      t.faultRx = true ∧ SameRegs s t ∧ t.phase = .operating ∧ SameOutputs s t ∧
      t.refusals = s.refusals ∧ t.inbox = s.inbox

/-- CAN_ACCEPT: answers whether RX_NOT_EMPTY is clear; nothing else changes, the phase neither (R150). -/
def Obligations.CanAcceptAnswersThePredicate : Prop :=
  ∀ s : State, Live s →
    (∀ payload, instrOf ⟨0xC000000000#40, payload⟩ s = .canAccept) ∧
    exec .canAccept s = .next { s with responses := s.responses ++ [.accept (!s.status.getLsbD 2)] }

/-- While the source keeps its duty, no run sets the fault flag (41_receive_path.md R154, 60_exceptions.md R214). -/
def Obligations.AnObedientSourceNeverFaults : Prop :=
  ∀ (qs : List Request) (s : State), SourceObeys qs s → (serveAll qs s).faultRx = s.faultRx

/-- Without a STATUS write: right after an accepted DELIVER `can_accept` is false, and it is true again only if an RX read or a
RESET came (the inference 41_receive_path.md marks as R156; conflict C4). -/
def Obligations.FlowControlHoldsWithoutStatusWrites : Prop :=
  ∀ (b : Byte) (s : State), Live s → canAccept s = true →
    ∃ t, exec (.deliver b) s = .next t ∧ canAccept t = false ∧
      ∀ qs, NoStatusWrite qs t → canAccept (serveAll qs t) = true → ∃ i ∈ trace qs t, endsPending i = true

/-- Two valid RX reads of one width with no DELIVER, RESET or STATUS write between them answer the same value; the first leaves
bit 2 clear, the second leaves the whole state as it was, the phase too, but for its answer and one more notify (the inference
41_receive_path.md marks as R157; that every read notifies is the spec's own choice, D9). -/
def Obligations.RxReadClearIsOneShot : Prop :=
  ∀ (w : Width) (s a b : State) (qs : List Request), exec (.rdRx w) s = .next a →
    NoDeliver qs a → NoReset qs a → NoStatusWrite qs a → b = serveAll qs a → Live b →
    a.responses = s.responses ++ [.data (narrow s.rx w)] ∧ a.status.getLsbD 2 = false ∧
    exec (.rdRx w) b =
      .next { b with responses := b.responses ++ [.data (narrow s.rx w)], notifies := b.notifies + 1 }

/-- Without a STATUS write or a RESET no accepted byte is lost or reordered: what was pending and what is accepted is, in order,
what RX reads take and what is still pending at the end (the inference 41_receive_path.md marks as R155). The inference also
covers runs whose STATUS writes leave bit 2 as it was; this statement leaves those out. -/
def Obligations.NoAcceptedByteIsLostOrReordered : Prop :=
  ∀ (qs : List Request) (s : State), NoStatusWrite qs s → NoReset qs s →
    pendingBytes s ++ acceptedBytes qs s = consumedBytes qs s ++ pendingBytes (serveAll qs s)

/-- A STATUS write that clears bit 2 under a pending byte lowers the level, opens flow control, emits no notify and leaves the
byte in RX, where the next delivery overwrites it without a fault (the inference 70_reset_and_hazards.md marks as R234). -/
def Obligations.ClearingTheBitByAStatusWriteLosesTheByte : Prop :=
  ∀ (w : Width) (wdata : BusWord) (b : Byte) (s : State), Live s → irq s = true →
    (narrow wdata w).getLsbD 2 = false →
    ∃ t u, exec (.wrStatus w wdata) s = .next t ∧ exec (.deliver b) t = .next u ∧
      irq t = false ∧ canAccept t = true ∧ t.notifies = s.notifies ∧ t.rx = s.rx ∧
      u.rx = b.setWidth 32 ∧ u.faultRx = s.faultRx ∧ irq u = true

/-- A STATUS write that sets bit 2 with no byte pending raises the level and closes flow control, and an RX read then answers the
stale RX (the inference 70_reset_and_hazards.md marks as R235). That a delivery before that read sets the fault flag and stores
nothing is the outcome 41_receive_path.md R152 marks as the spec's own choice (92_eei_decisions.md D10, log entry 5). The write is
said to complete here only where no byte is pending and the value stored has bit 2 set. -/
def Obligations.SettingTheBitByAStatusWriteShowsAStaleByte : Prop :=
  ∀ (w k : Width) (wdata : BusWord) (b : Byte) (s : State), Live s → irq s = false →
    (narrow wdata w).getLsbD 2 = true →
    ∃ t u v, exec (.wrStatus w wdata) s = .next t ∧ irq t = true ∧ canAccept t = false ∧
      exec (.deliver b) t = .next u ∧ u.faultRx = true ∧ u.rx = s.rx ∧
      exec (.rdRx k) t = .next v ∧ v.responses = s.responses ++ [.data (narrow s.rx k)] ∧ irq v = false

/-! ### The Transmit Path -/

/-- WR_TX: `wdata[7:0]` is handed to the sink once at every width, TX_FULL alone is cleared, nothing else changes but the phase
(R170). The state reached is the same whatever the sink answers (R171, R202; log entry 9). -/
def Obligations.TxWriteForwardsTheLowByte : Prop :=
  ∀ (w : Width) (wdata : BusWord) (s : State), Live s →
    WriteEncodes 0x04#32 w wdata s (.wrTx w wdata) ∧
    ∃ t, exec (.wrTx w wdata) s = .next t ∧
      t.sink = s.sink ++ [wdata.setWidth 8] ∧
      (∀ n, t.status.getLsbD n = (s.status.getLsbD n && decide (n ≠ 1))) ∧
      SameRegsBut .status s t ∧ t.phase = .operating ∧
      t.responses = s.responses ∧ t.notifies = s.notifies ∧ t.diags = s.diags ∧ SameRecord s t ∧
      irq t = irq s ∧ canAccept t = canAccept s

/-- The bytes handed to the sink by a sequence of transactions are the low bytes of its valid TX writes, in order, none dropped,
duplicated or reordered (the inference 42_transmit_path.md marks as R172). -/
def Obligations.TheSinkReceivesTheTxWritesInOrder : Prop :=
  ∀ (qs : List Request) (s : State), (serveAll qs s).sink = s.sink ++ sentBytes qs s

/-! ### The Interrupt Evaluator -/

/-- The level is bit 2 of STATUS and nothing else, and a live instance drives it on the line, in phase Reset and in phase Operating
(43_interrupt_evaluator.md R180); the backpressure predicate is its negation, which CAN_ACCEPT answers, changing nothing else
(41_receive_path.md R150). -/
def Obligations.TheLevelIsBitTwoOfStatus : Prop :=
  ∀ s : State,
    (irq s = true ↔ s.status.toNat / 4 % 2 = 1) ∧ (canAccept s = true ↔ s.status.toNat / 4 % 2 = 0) ∧
    (Live s → irqLine s = some (decide (s.status.toNat / 4 % 2 = 1)) ∧
      (∀ payload, instrOf ⟨0xC000000000#40, payload⟩ s = .canAccept) ∧
      exec .canAccept s = .next { s with responses := s.responses ++ [.accept (decide (s.status.toNat / 4 % 2 = 0))] })

/-- What each transaction makes of the level: DELIVER leaves it asserted, RD_RX and RESET deasserted, WR_STATUS at bit 2 of the
value written, and every other transaction as it was (43_interrupt_evaluator.md R182). -/
def Obligations.TheLevelChangesAtFourTransactionsOnly : Prop :=
  ∀ (i : Instr) (s t : State), exec i s = .next t →
    irq t = match i with
      | .deliver _ => true
      | .rdRx _ => false
      | .wrStatus w wdata => (narrow wdata w).getLsbD 2
      | .reset => false
      | _ => irq s

/-- Without STATUS writes the level rises once per accepted delivery and never otherwise, and between two rises it fell at an RX
read or a RESET (the inference 43_interrupt_evaluator.md marks as R184; conflict C3). -/
def Obligations.NoDoubleInterruptWithoutStatusWrites : Prop :=
  (∀ (qs : List Request) (s : State), NoStatusWrite qs s → rises qs s = (acceptedBytes qs s).length) ∧
  (∀ (qs : List Request) (s : State), NoStatusWrite qs s → irq s = true → irq (serveAll qs s) = false →
    ∃ pre q post, qs = pre ++ q :: post ∧ irq (serveAll pre s) = true ∧ irq (serve q (serveAll pre s)) = false ∧
      endsPending (instrOf q (serveAll pre s)) = true)

/-! ### Lifecycle -/

/-- RESET: every stored register takes its reset value, the phase is Reset, the fault flag is kept, nothing is put out, the level
is deasserted and the predicate true, from Reset and from Operating (44_lifecycle.md R191; 10_state.md R40 to R47). That no
AcceptNotify is emitted (R191 (b)) and that the fault flag is kept (R195) are the spec's own choices (92_eei_decisions.md D23,
D28). -/
def Obligations.ResetGivesTheDocumentedDefaults : Prop :=
  ∀ s : State, Live s →
    (∀ payload, instrOf ⟨0x8000000000#40, payload⟩ s = .reset) ∧
    ∃ t, exec .reset s = .next t ∧
      t.baud = Config.baudReset ∧ t.rx = 0x00000000#32 ∧ t.status = 0x00000000#32 ∧ t.delay = 0x00000000#32 ∧
      t.control = Config.controlReset ∧ t.interruptEnable = Config.irqNumber ∧ t.iqCycles = 0x00000000#32 ∧
      t.rxThreshold = 0x00000000#32 ∧ t.phase = .reset ∧
      SameOutputs s t ∧ SameRecord s t ∧ irqLine t = some false ∧ canAccept t = true

/-- Two RESETs in a row leave the state that one leaves, the fault flag as it was (the inference 44_lifecycle.md marks as R194). -/
def Obligations.ResetIsIdempotent : Prop :=
  ∀ s : State, Live s → ∃ t, exec .reset s = .next t ∧ exec .reset t = .next t ∧ t.faultRx = s.faultRx

/-- DESTROY: the phase is Destroyed and nothing else changes; afterwards every instruction and every request is refused with
DESTROYED and the line is not driven (44_lifecycle.md R193). The refusal is the spec's own choice (60_exceptions.md R204;
92_eei_decisions.md D12, D29), and that `exec` refuses every instruction there, whatever the decoder would answer, is the
model's (log entry 12). -/
def Obligations.DestroyReleasesTheInstance : Prop :=
  ∀ s : State, Live s →
    (∀ payload, instrOf ⟨0xA000000000#40, payload⟩ s = .destroy) ∧
    ∃ t, exec .destroy s = .next t ∧
      t.phase = .destroyed ∧ SameRegs s t ∧ SameOutputs s t ∧ SameRecord s t ∧ irqLine t = none ∧
      (∀ q, instrOf q t = .refusedDestroyed q.desc) ∧ (∀ i, exec i t = .refused .destroyed)

/-- A destroyed instance does nothing, whatever is presented: one refusal DESTROYED is recorded per transaction and nothing else
changes (44_lifecycle.md R193, 60_exceptions.md R204; 92_eei_decisions.md D12; log entry 4). -/
def Obligations.ADestroyedInstanceStaysAsItIs : Prop :=
  ∀ (qs : List Request) (s : State), s.phase = .destroyed →
    serveAll qs s = { s with refusals := s.refusals ++ List.replicate qs.length .destroyed }

/-- The phase moves Reset to Operating at every accepted CPU access and DELIVER, to Reset at RESET, to Destroyed at DESTROY, and
nowhere else; and no response, register or output depends on whether it is Reset or Operating (44_lifecycle.md R192). -/
def Obligations.ThePhaseMovesAsStatedAndIsUnobservable : Prop :=
  (∀ (i : Instr) (s t : State), exec i s = .next t →
    t.phase = match i with
      | .reset => .reset
      | .destroy => .destroyed
      | _ => if movesPhase i then .operating else s.phase) ∧
  (∀ (q : Request) (s : State) (r : Refusal), exec (instrOf q s) s = .refused r → (serve q s).phase = s.phase) ∧
  (∀ (q : Request) (s : State), instrOf q { s with phase := .reset } = instrOf q { s with phase := .operating }) ∧
  (∀ (i : Instr) (s t : State), exec i { s with phase := .reset } = .next t →
    ∃ u, exec i { s with phase := .operating } = .next u ∧ { u with phase := .reset } = { t with phase := .reset }) ∧
  (∀ (i : Instr) (s : State) (r : Refusal), exec i { s with phase := .reset } = .refused r →
    exec i { s with phase := .operating } = .refused r)

/-- Construction creates the instance with every register zero and applies reset; the result is the machine's start state
(44_lifecycle.md R190, 10_state.md R48). That this state has nothing put out, nothing recorded and nothing presented is the model's
choice (log entries 1, 3 and 4), and that its fault flag is false is log entry 5. -/
def Obligations.ConstructionEndsInTheResetState : Prop :=
  (∀ r, State.created.reg r = 0x00000000#32) ∧ construct = State.reset ∧ irqLine construct = some false

/-! ### Refusals, faults and the record -/

/-- The five refused rows answer their refusal by name on every state the decoder reaches them in, and take no step (R120, R121,
R122, R193, R204). -/
def Obligations.RefusedRowsRefuseByName : Prop :=
  ∀ s : State,
    (∀ d, exec (.refusedDestroyed d) s = .refused .destroyed) ∧
    (Live s →
      (∀ d, exec (.refusedReservedBits d) s = .refused .reservedBits) ∧
      (∀ dir off, exec (.refusedWidth dir off) s = .refused .badWidth) ∧
      (∀ dir w off, exec (.refusedWindow dir w off) s = .refused .outsideWindow) ∧
      (∀ d, exec (.refusedForm d) s = .refused .badForm))

/-- A refused transaction changes nothing but the record, which no transaction ever shortens (60_exceptions.md R204; log entry
4). -/
def Obligations.RefusalsAreRecordedForTheWholeRun : Prop :=
  (∀ (q : Request) (s : State) (r : Refusal), exec (instrOf q s) s = .refused r →
    serve q s = { s with refusals := s.refusals ++ [r] }) ∧
  (∀ (q : Request) (s t : State), exec (instrOf q s) s = .next t → serve q s = t ∧ t.refusals = s.refusals) ∧
  (∀ s t : State, step s = .next t → s.refusals <+: t.refusals)

/-- No step stops: from every state a step answers a next state (60_exceptions.md R205; that a refused transaction does not end
the run is log entry 4). -/
def Obligations.NothingInTheBlockIsFatal : Prop :=
  ∀ s : State, ∃ t, step s = .next t

/-- The fault flag is set by a DELIVER under a set bit 2 and by nothing else, and nothing clears it (10_state.md R37,
44_lifecycle.md R195). -/
def Obligations.TheFaultFlagIsSticky : Prop :=
  (∀ (i : Instr) (s t : State), exec i s = .next t → t.faultRx = (s.faultRx || (isDeliver i && irq s))) ∧
  (∀ s t : State, step s = .next t → s.faultRx = true → t.faultRx = true)

/-- The fault flag is exposed nowhere: what a transaction does to everything else does not depend on it (10_state.md R37). -/
def Obligations.TheFaultFlagIsNotExposed : Prop :=
  ∀ (i : Instr) (s t : State) (f : Bool), exec i s = .next t →
    ∃ u, exec i { s with faultRx := f } = .next u ∧ { u with faultRx := false } = { t with faultRx := false }

/-! ### The whole block -/

/-- A stored register is changed by the transactions of 10_state.md R50's table and by no other. -/
def Obligations.RegistersHaveTheirWritersOnly : Prop :=
  ∀ (i : Instr) (r : Reg) (s t : State), exec i s = .next t → mayWrite i r = false → t.reg r = s.reg r

/-- A STATUS bit is changed by the transactions of 10_state.md R25's table and by no other; a bit other than RX_NOT_EMPTY goes from
0 to 1 only by a STATUS write; every TX write clears TX_FULL (R26, R27). -/
def Obligations.StatusBitsHaveTheirWritersOnly : Prop :=
  ∀ (i : Instr) (s t : State) (n : Nat), exec i s = .next t →
    (mayChangeStatusBit i n = false → t.status.getLsbD n = s.status.getLsbD n) ∧
    (n ≠ 2 → s.status.getLsbD n = false → t.status.getLsbD n = true → isStatusWrite i = true) ∧
    (∀ w wdata, i = .wrTx w wdata → t.status.getLsbD 1 = false)

/-- The block's next state is a function of its registers, phase and fault flag alone: nothing put out is read back and no other
state exists (10_state.md R20, R21; 60_exceptions.md R201). -/
def Obligations.NoOtherStateExists : Prop :=
  ∀ (i : Instr) (s u : State), SameBlock s u →
    (∀ t, exec i s = .next t → ∃ v, exec i u = .next v ∧ SameBlock t v) ∧
    (∀ r, exec i s = .refused r → exec i u = .refused r)

/-- BAUD, DELAY, CONTROL, INTERRUPT_ENABLE, IQ_CYCLES and RX_THRESHOLD affect nothing but their own reads: RX, STATUS, the phase,
the fault flag, the sink, the notifies and the diagnostics never depend on them; nor does any answer, but that the read of one of
them answers from that one alone (00_scope.md R5; 10_state.md R22, R30 to R34; 43_interrupt_evaluator.md R181). -/
def Obligations.PassthroughRegistersAffectNothing : Prop :=
  ∀ (i : Instr) (s u : State), SameButStores s u →
    (∀ t, exec i s = .next t → ∃ v, exec i u = .next v ∧ SameButStores t v ∧
      ((∀ r, passthroughRead i = some r → u.reg r = s.reg r) → SameAnswers s t u v)) ∧
    (∀ r, exec i s = .refused r → exec i u = .refused r)

/-- Running the machine over the transactions presented is serving them one after the other (20_memory.md R73). -/
def Obligations.ARunServesTheTransactionsInOrder : Prop :=
  ∀ (qs : List Request) (s : State),
    Host.Core.run Sys2Proof.core qs.length { s with inbox := qs } = .next (serveAll qs { s with inbox := [] })

/-- The state after construction and reset meets the invariant: RX holds one zero-extended byte, every recorded diagnostic is legal,
and every register has its reset value (10_state.md R40 to R47). That no diagnostic is recorded there at all, which makes the
second clause hold, is the model's choice (log entry 3). -/
def Obligations.ResetStateMeetsTheInvariant : Prop := Inv State.reset

/-- Every step keeps the invariant: RX holds one zero-extended byte, every diagnostic names a real invalid access, and in phase
Reset every register has its reset value (10_state.md R24; 60_exceptions.md R201; 44_lifecycle.md R191, R192). -/
def Obligations.EveryStepKeepsTheInvariant : Prop :=
  ∀ s t : State, Inv s → step s = .next t → Inv t

/-- Once the instance is destroyed the line is driven at no later moment, whatever is presented; on leaving construction, and after
every RESET of a live instance, it is driven deasserted (43_interrupt_evaluator.md R185, 44_lifecycle.md R193; that no level is
defined for a destroyed instance is the spec's own choice, 92_eei_decisions.md D12). -/
def Obligations.TheLineIsLowAtResetAndReleasedAtDestroy : Prop :=
  (∀ (qs : List Request) (s : State), s.phase = .destroyed → irqLine (serveAll qs s) = none) ∧
  irqLine construct = some false ∧
  (∀ s : State, Live s →
    (∃ t, exec .reset s = .next t ∧ irqLine t = some false) ∧
    (∃ t, exec .destroy s = .next t ∧ ∀ qs, irqLine (serveAll qs t) = none))
end

