-- ==== Sys2Proof/Laws/Decode.lean ====
section
/-! SUPPORT. The descriptor's fields and what packing does to them; slots and offsets. -/

namespace Sys2Proof

/-! ### Packing and unpacking -/

/-- Every bit of a packed descriptor lies in the field R81 puts it in. -/
theorem getLsbD_packDescriptor (p : BitVec 2) (d : BitVec 1) (z : BitVec 2) (r : BitVec 3) (o : Word) (n : Nat) :
    (packDescriptor p d z r o).getLsbD n =
      if n < 32 then o.getLsbD n
      else if n < 35 then r.getLsbD (n - 32)
      else if n < 37 then z.getLsbD (n - 35)
      else if n < 38 then d.getLsbD (n - 37)
      else p.getLsbD (n - 38) := by
  unfold packDescriptor
  simp only [BitVec.getLsbD_append]
  rw [Nat.sub_sub, Nat.sub_sub, Nat.sub_sub]
  split
  · rfl
  rw [if_congr (by omega : n - 32 < 3 ↔ n < 35) rfl rfl, if_congr (by omega : n - (32 + 3) < 2 ↔ n < 37) rfl rfl,
    if_congr (by omega : n - (32 + (3 + 2)) < 1 ↔ n < 38) rfl rfl]

theorem descPort_pack (p : BitVec 2) (d : BitVec 1) (z : BitVec 2) (r : BitVec 3) (o : Word) :
    descPort (packDescriptor p d z r o) = p := by
  refine BitVec.eq_of_getLsbD_eq fun i hi => ?_
  rw [descPort, BitVec.getLsbD_extractLsb', getLsbD_packDescriptor, if_neg (by omega), if_neg (by omega), if_neg (by omega), if_neg (by omega)]
  simp [hi]

theorem descSz_pack (p : BitVec 2) (d : BitVec 1) (z : BitVec 2) (r : BitVec 3) (o : Word) :
    descSz (packDescriptor p d z r o) = z := by
  refine BitVec.eq_of_getLsbD_eq fun i hi => ?_
  rw [descSz, BitVec.getLsbD_extractLsb', getLsbD_packDescriptor, if_neg (by omega), if_neg (by omega), if_pos (by omega)]
  simp [hi]

theorem descRsv_pack (p : BitVec 2) (d : BitVec 1) (z : BitVec 2) (r : BitVec 3) (o : Word) :
    descRsv (packDescriptor p d z r o) = r := by
  refine BitVec.eq_of_getLsbD_eq fun i hi => ?_
  rw [descRsv, BitVec.getLsbD_extractLsb', getLsbD_packDescriptor, if_neg (by omega), if_pos (by omega)]
  simp [hi]

theorem descOff_pack (p : BitVec 2) (d : BitVec 1) (z : BitVec 2) (r : BitVec 3) (o : Word) :
    descOff (packDescriptor p d z r o) = o := by
  refine BitVec.eq_of_getLsbD_eq fun i hi => ?_
  simp [descOff, getLsbD_packDescriptor, hi]

theorem descDir_pack (p : BitVec 2) (d : Dir) (z : BitVec 2) (r : BitVec 3) (o : Word) :
    descDir (packDescriptor p (dirBit d) z r o) = d := by
  rw [descDir, getLsbD_packDescriptor]
  cases d <;> rfl

/-- A descriptor is what its five fields pack to: no bit of it lies outside them. -/
theorem pack_desc (d : Descriptor) :
    packDescriptor (descPort d) (dirBit (descDir d)) (descSz d) (descRsv d) (descOff d) = d := by
  have hdir : ∀ n, (dirBit (descDir d)).getLsbD n = (decide (n < 1) && d.getLsbD (37 + n)) := by
    intro n
    unfold descDir dirBit
    by_cases h : n < 1
    · obtain rfl : n = 0 := by omega
      cases hb : d.getLsbD 37 <;> simp
    · cases hb : d.getLsbD 37
      · simp [h]
      · simp [h]; omega
  refine BitVec.eq_of_getLsbD_eq fun n hn => ?_
  rw [getLsbD_packDescriptor, hdir]
  simp only [descPort, descSz, descRsv, descOff, BitVec.getLsbD_extractLsb']
  split
  · simp [*]
  split
  · rw [(by omega : 32 + (n - 32) = n)]; simp [(by omega : n - 32 < 3)]
  split
  · rw [(by omega : 35 + (n - 35) = n)]; simp [(by omega : n - 35 < 2)]
  split
  · rw [(by omega : 37 + (n - 37) = n)]; simp [(by omega : n - 37 < 1)]
  · rw [(by omega : 38 + (n - 38) = n)]; simp [(by omega : n - 38 < 2)]

/-- A mask acts on each field by its own bits of the mask. -/
theorem pack_and_mask (p : BitVec 2) (d : BitVec 1) (z : BitVec 2) (r : BitVec 3) (o : Word) (m : Descriptor) :
    packDescriptor p d z r o &&& m = packDescriptor (p &&& descPort m) (d &&& m.extractLsb' 37 1) (z &&& descSz m)
      (r &&& descRsv m) (o &&& descOff m) := by
  refine BitVec.eq_of_getLsbD_eq fun n hn => ?_
  simp only [BitVec.getLsbD_and, getLsbD_packDescriptor, descPort, descSz, descRsv, descOff, BitVec.getLsbD_extractLsb']
  split
  · simp [*]
  split
  · rw [(by omega : 32 + (n - 32) = n)]; simp [(by omega : n - 32 < 3)]
  split
  · rw [(by omega : 35 + (n - 35) = n)]; simp [(by omega : n - 35 < 2)]
  split
  · rw [(by omega : 37 + (n - 37) = n)]; simp [(by omega : n - 37 < 1)]
  · rw [(by omega : 38 + (n - 38) = n)]; simp [(by omega : n - 38 < 2)]

theorem dirBit_inj (a b : Dir) : dirBit a = dirBit b ↔ a = b := by cases a <;> cases b <;> decide

/-- A masked descriptor equals a pattern exactly when each field does. -/
theorem desc_and_mask_eq_iff (d m p : Descriptor) : d &&& m = p ↔
    (descPort d &&& descPort m = descPort p ∧ dirBit (descDir d) &&& m.extractLsb' 37 1 = dirBit (descDir p) ∧
      descSz d &&& descSz m = descSz p ∧ descRsv d &&& descRsv m = descRsv p ∧ descOff d &&& descOff m = descOff p) := by
  constructor
  · intro h
    have h1 := pack_and_mask (descPort d) (dirBit (descDir d)) (descSz d) (descRsv d) (descOff d) m
    rw [pack_desc d, h] at h1
    have hbit : ∃ e, dirBit (descDir d) &&& m.extractLsb' 37 1 = dirBit e := by
      generalize dirBit (descDir d) &&& m.extractLsb' 37 1 = x
      have hx : x = 0#1 ∨ x = 1#1 := by revert x; decide
      rcases hx with rfl | rfl
      · exact ⟨.read, rfl⟩
      · exact ⟨.write, rfl⟩
    obtain ⟨e, he⟩ := hbit
    rw [he] at h1
    refine ⟨?_, ?_, ?_, ?_, ?_⟩
    · rw [h1, descPort_pack]
    · rw [he, h1, descDir_pack]
    · rw [h1, descSz_pack]
    · rw [h1, descRsv_pack]
    · rw [h1, descOff_pack]
  · rintro ⟨hp, hd, hz, hr, ho⟩
    rw [← pack_desc d, pack_and_mask, hp, hd, hz, hr, ho, pack_desc]

/-- The descriptor of a CPU read as R86 writes it. -/
theorem read_descriptor_eq_pack (off : Word) (w : Width) :
    ((szOfWidth w).setWidth 40 <<< 35) ||| off.setWidth 40 = packDescriptor 0b00#2 (dirBit .read) (szOfWidth w) 0#3 off := by
  refine BitVec.eq_of_getLsbD_eq fun n hn => ?_
  rw [getLsbD_packDescriptor]
  simp only [BitVec.getLsbD_or, BitVec.getLsbD_shiftLeft, BitVec.getLsbD_setWidth, hn]
  by_cases h : n < 32
  · simp [h, (by omega : n < 35)]
  by_cases h1 : n < 35
  · simp [h, h1, BitVec.getLsbD_of_ge off n (by omega)]
  by_cases h2 : n < 37
  · simp [h, h1, h2, BitVec.getLsbD_of_ge off n (by omega)]; omega
  · simp [h, h1, h2, BitVec.getLsbD_of_ge off n (by omega), BitVec.getLsbD_of_ge (szOfWidth w) (n - 35) (by omega), dirBit]

/-- The descriptor of a CPU write as R86 writes it. -/
theorem write_descriptor_eq_pack (off : Word) (w : Width) :
    0x2000000000#40 ||| ((szOfWidth w).setWidth 40 <<< 35) ||| off.setWidth 40 =
      packDescriptor 0b00#2 (dirBit .write) (szOfWidth w) 0#3 off := by
  rw [BitVec.or_assoc, read_descriptor_eq_pack,
    show 0x2000000000#40 = packDescriptor 0b00#2 (dirBit .write) 0#2 0#3 0#32 by decide]
  refine BitVec.eq_of_getLsbD_eq fun n hn => ?_
  simp only [BitVec.getLsbD_or, getLsbD_packDescriptor]
  repeat' split
  all_goals simp [dirBit]

/-! ### Widths and slots -/

@[simp] theorem widthOfSz_szOfWidth (w : Width) : widthOfSz (szOfWidth w) = some w := by cases w <;> rfl

/-- A width code that names a width is that width's code. -/
theorem szOfWidth_of_widthOfSz {z : BitVec 2} {w : Width} (h : widthOfSz z = some w) : szOfWidth w = z := by
  revert h; revert z; cases w <;> decide

/-- Only code 11 names no width. -/
theorem widthOfSz_eq_none {z : BitVec 2} : widthOfSz z = none ↔ z = 0b11#2 := by revert z; decide

@[simp] theorem slotAt_slotOffset (k : Slot) : slotAt (slotOffset k) = some k := by cases k <;> rfl

/-- A slot is found at its own offset only. -/
theorem slotOffset_of_slotAt {off : Word} {k : Slot} (h : slotAt off = some k) : slotOffset k = off := by
  unfold slotAt at h
  repeat' split at h
  all_goals first | (cases h; rename_i h'; exact h'.symm) | cases h

/-- An offset names no slot exactly when it is outside V. -/
theorem slotAt_eq_none_iff (off : Word) : slotAt off = none ↔ off ∉ validOffsets := by
  constructor
  · intro h hm
    simp only [validOffsets, List.mem_cons, List.not_mem_nil, or_false] at hm
    rcases hm with rfl | rfl | rfl | rfl | rfl | rfl | rfl | rfl | rfl <;> cases h
  · intro h
    cases hs : slotAt off with
    | none => rfl
    | some k =>
      refine absurd ?_ h
      rw [← slotOffset_of_slotAt hs]
      cases k <;> simp [validOffsets, slotOffset]

end Sys2Proof
end

