-- ==== Sys2Proof/Laws/State.lean ====
section
/-! SUPPORT. One lemma per field per update of State: what each named update leaves in each field. -/

namespace Sys2Proof.Machine

/-! ### A register by its name -/

@[simp] theorem State.reg_baud (s : State) : s.reg .baud = s.baud := rfl
@[simp] theorem State.reg_rx (s : State) : s.reg .rx = s.rx := rfl
@[simp] theorem State.reg_status (s : State) : s.reg .status = s.status := rfl
@[simp] theorem State.reg_delay (s : State) : s.reg .delay = s.delay := rfl
@[simp] theorem State.reg_control (s : State) : s.reg .control = s.control := rfl
@[simp] theorem State.reg_interruptEnable (s : State) : s.reg .interruptEnable = s.interruptEnable := rfl
@[simp] theorem State.reg_iqCycles (s : State) : s.reg .iqCycles = s.iqCycles := rfl
@[simp] theorem State.reg_rxThreshold (s : State) : s.reg .rxThreshold = s.rxThreshold := rfl

/-! ### setReg -/

/-- Writing one register leaves every other as it was. -/
theorem State.setReg_reg (s : State) (r q : Reg) (v : Word) : (s.setReg r v).reg q = if q = r then v else s.reg q := by
  cases r <;> cases q <;> rfl

@[simp] theorem State.setReg_reg_self (s : State) (r : Reg) (v : Word) : (s.setReg r v).reg r = v := by cases r <;> rfl

theorem State.setReg_reg_ne (s : State) (r q : Reg) (v : Word) (h : q ≠ r) : (s.setReg r v).reg q = s.reg q := by
  rw [State.setReg_reg, if_neg h]

/-- Writing back what a register holds changes nothing. -/
@[simp] theorem State.setReg_reg_eq_self (s : State) (r : Reg) : s.setReg r (s.reg r) = s := by cases r <;> rfl

@[simp] theorem State.setReg_baud (s : State) (r : Reg) (v : Word) :
    (s.setReg r v).baud = if r = .baud then v else s.baud := by cases r <;> rfl
@[simp] theorem State.setReg_rx (s : State) (r : Reg) (v : Word) :
    (s.setReg r v).rx = if r = .rx then v else s.rx := by cases r <;> rfl
@[simp] theorem State.setReg_status (s : State) (r : Reg) (v : Word) :
    (s.setReg r v).status = if r = .status then v else s.status := by cases r <;> rfl
@[simp] theorem State.setReg_delay (s : State) (r : Reg) (v : Word) :
    (s.setReg r v).delay = if r = .delay then v else s.delay := by cases r <;> rfl
@[simp] theorem State.setReg_control (s : State) (r : Reg) (v : Word) :
    (s.setReg r v).control = if r = .control then v else s.control := by cases r <;> rfl
@[simp] theorem State.setReg_interruptEnable (s : State) (r : Reg) (v : Word) :
    (s.setReg r v).interruptEnable = if r = .interruptEnable then v else s.interruptEnable := by cases r <;> rfl
@[simp] theorem State.setReg_iqCycles (s : State) (r : Reg) (v : Word) :
    (s.setReg r v).iqCycles = if r = .iqCycles then v else s.iqCycles := by cases r <;> rfl
@[simp] theorem State.setReg_rxThreshold (s : State) (r : Reg) (v : Word) :
    (s.setReg r v).rxThreshold = if r = .rxThreshold then v else s.rxThreshold := by cases r <;> rfl
@[simp] theorem State.setReg_phase (s : State) (r : Reg) (v : Word) : (s.setReg r v).phase = s.phase := by cases r <;> rfl
@[simp] theorem State.setReg_faultRx (s : State) (r : Reg) (v : Word) : (s.setReg r v).faultRx = s.faultRx := by cases r <;> rfl
@[simp] theorem State.setReg_responses (s : State) (r : Reg) (v : Word) : (s.setReg r v).responses = s.responses := by cases r <;> rfl
@[simp] theorem State.setReg_sink (s : State) (r : Reg) (v : Word) : (s.setReg r v).sink = s.sink := by cases r <;> rfl
@[simp] theorem State.setReg_notifies (s : State) (r : Reg) (v : Word) : (s.setReg r v).notifies = s.notifies := by cases r <;> rfl
@[simp] theorem State.setReg_diags (s : State) (r : Reg) (v : Word) : (s.setReg r v).diags = s.diags := by cases r <;> rfl
@[simp] theorem State.setReg_refusals (s : State) (r : Reg) (v : Word) : (s.setReg r v).refusals = s.refusals := by cases r <;> rfl
@[simp] theorem State.setReg_inbox (s : State) (r : Reg) (v : Word) : (s.setReg r v).inbox = s.inbox := by cases r <;> rfl

/-! ### operate -/

@[simp] theorem State.operate_baud (s : State) : (s.operate).baud = s.baud := rfl
@[simp] theorem State.operate_rx (s : State) : (s.operate).rx = s.rx := rfl
@[simp] theorem State.operate_status (s : State) : (s.operate).status = s.status := rfl
@[simp] theorem State.operate_delay (s : State) : (s.operate).delay = s.delay := rfl
@[simp] theorem State.operate_control (s : State) : (s.operate).control = s.control := rfl
@[simp] theorem State.operate_interruptEnable (s : State) : (s.operate).interruptEnable = s.interruptEnable := rfl
@[simp] theorem State.operate_iqCycles (s : State) : (s.operate).iqCycles = s.iqCycles := rfl
@[simp] theorem State.operate_rxThreshold (s : State) : (s.operate).rxThreshold = s.rxThreshold := rfl
@[simp] theorem State.operate_phase (s : State) : (s.operate).phase = phaseAfterAccess s.phase := rfl
@[simp] theorem State.operate_faultRx (s : State) : (s.operate).faultRx = s.faultRx := rfl
@[simp] theorem State.operate_responses (s : State) : (s.operate).responses = s.responses := rfl
@[simp] theorem State.operate_sink (s : State) : (s.operate).sink = s.sink := rfl
@[simp] theorem State.operate_notifies (s : State) : (s.operate).notifies = s.notifies := rfl
@[simp] theorem State.operate_diags (s : State) : (s.operate).diags = s.diags := rfl
@[simp] theorem State.operate_refusals (s : State) : (s.operate).refusals = s.refusals := rfl
@[simp] theorem State.operate_inbox (s : State) : (s.operate).inbox = s.inbox := rfl
@[simp] theorem State.operate_reg (s : State) (r : Reg) : (s.operate).reg r = s.reg r := rfl

/-! ### respond -/

@[simp] theorem State.respond_baud (s : State) (a : Response) : (s.respond a).baud = s.baud := rfl
@[simp] theorem State.respond_rx (s : State) (a : Response) : (s.respond a).rx = s.rx := rfl
@[simp] theorem State.respond_status (s : State) (a : Response) : (s.respond a).status = s.status := rfl
@[simp] theorem State.respond_delay (s : State) (a : Response) : (s.respond a).delay = s.delay := rfl
@[simp] theorem State.respond_control (s : State) (a : Response) : (s.respond a).control = s.control := rfl
@[simp] theorem State.respond_interruptEnable (s : State) (a : Response) : (s.respond a).interruptEnable = s.interruptEnable := rfl
@[simp] theorem State.respond_iqCycles (s : State) (a : Response) : (s.respond a).iqCycles = s.iqCycles := rfl
@[simp] theorem State.respond_rxThreshold (s : State) (a : Response) : (s.respond a).rxThreshold = s.rxThreshold := rfl
@[simp] theorem State.respond_phase (s : State) (a : Response) : (s.respond a).phase = s.phase := rfl
@[simp] theorem State.respond_faultRx (s : State) (a : Response) : (s.respond a).faultRx = s.faultRx := rfl
@[simp] theorem State.respond_responses (s : State) (a : Response) : (s.respond a).responses = s.responses ++ [a] := rfl
@[simp] theorem State.respond_sink (s : State) (a : Response) : (s.respond a).sink = s.sink := rfl
@[simp] theorem State.respond_notifies (s : State) (a : Response) : (s.respond a).notifies = s.notifies := rfl
@[simp] theorem State.respond_diags (s : State) (a : Response) : (s.respond a).diags = s.diags := rfl
@[simp] theorem State.respond_refusals (s : State) (a : Response) : (s.respond a).refusals = s.refusals := rfl
@[simp] theorem State.respond_inbox (s : State) (a : Response) : (s.respond a).inbox = s.inbox := rfl
@[simp] theorem State.respond_reg (s : State) (a : Response) (r : Reg) : (s.respond a).reg r = s.reg r := rfl

/-! ### emitDiag -/

@[simp] theorem State.emitDiag_baud (s : State) (d : Diag) : (s.emitDiag d).baud = s.baud := rfl
@[simp] theorem State.emitDiag_rx (s : State) (d : Diag) : (s.emitDiag d).rx = s.rx := rfl
@[simp] theorem State.emitDiag_status (s : State) (d : Diag) : (s.emitDiag d).status = s.status := rfl
@[simp] theorem State.emitDiag_delay (s : State) (d : Diag) : (s.emitDiag d).delay = s.delay := rfl
@[simp] theorem State.emitDiag_control (s : State) (d : Diag) : (s.emitDiag d).control = s.control := rfl
@[simp] theorem State.emitDiag_interruptEnable (s : State) (d : Diag) : (s.emitDiag d).interruptEnable = s.interruptEnable := rfl
@[simp] theorem State.emitDiag_iqCycles (s : State) (d : Diag) : (s.emitDiag d).iqCycles = s.iqCycles := rfl
@[simp] theorem State.emitDiag_rxThreshold (s : State) (d : Diag) : (s.emitDiag d).rxThreshold = s.rxThreshold := rfl
@[simp] theorem State.emitDiag_phase (s : State) (d : Diag) : (s.emitDiag d).phase = s.phase := rfl
@[simp] theorem State.emitDiag_faultRx (s : State) (d : Diag) : (s.emitDiag d).faultRx = s.faultRx := rfl
@[simp] theorem State.emitDiag_responses (s : State) (d : Diag) : (s.emitDiag d).responses = s.responses := rfl
@[simp] theorem State.emitDiag_sink (s : State) (d : Diag) : (s.emitDiag d).sink = s.sink := rfl
@[simp] theorem State.emitDiag_notifies (s : State) (d : Diag) : (s.emitDiag d).notifies = s.notifies := rfl
@[simp] theorem State.emitDiag_diags (s : State) (d : Diag) : (s.emitDiag d).diags = s.diags ++ [d] := rfl
@[simp] theorem State.emitDiag_refusals (s : State) (d : Diag) : (s.emitDiag d).refusals = s.refusals := rfl
@[simp] theorem State.emitDiag_inbox (s : State) (d : Diag) : (s.emitDiag d).inbox = s.inbox := rfl
@[simp] theorem State.emitDiag_reg (s : State) (d : Diag) (r : Reg) : (s.emitDiag d).reg r = s.reg r := rfl

/-! ### notifySource -/

@[simp] theorem State.notifySource_baud (s : State) : (s.notifySource).baud = s.baud := rfl
@[simp] theorem State.notifySource_rx (s : State) : (s.notifySource).rx = s.rx := rfl
@[simp] theorem State.notifySource_status (s : State) : (s.notifySource).status = s.status := rfl
@[simp] theorem State.notifySource_delay (s : State) : (s.notifySource).delay = s.delay := rfl
@[simp] theorem State.notifySource_control (s : State) : (s.notifySource).control = s.control := rfl
@[simp] theorem State.notifySource_interruptEnable (s : State) : (s.notifySource).interruptEnable = s.interruptEnable := rfl
@[simp] theorem State.notifySource_iqCycles (s : State) : (s.notifySource).iqCycles = s.iqCycles := rfl
@[simp] theorem State.notifySource_rxThreshold (s : State) : (s.notifySource).rxThreshold = s.rxThreshold := rfl
@[simp] theorem State.notifySource_phase (s : State) : (s.notifySource).phase = s.phase := rfl
@[simp] theorem State.notifySource_faultRx (s : State) : (s.notifySource).faultRx = s.faultRx := rfl
@[simp] theorem State.notifySource_responses (s : State) : (s.notifySource).responses = s.responses := rfl
@[simp] theorem State.notifySource_sink (s : State) : (s.notifySource).sink = s.sink := rfl
@[simp] theorem State.notifySource_notifies (s : State) : (s.notifySource).notifies = s.notifies + 1 := rfl
@[simp] theorem State.notifySource_diags (s : State) : (s.notifySource).diags = s.diags := rfl
@[simp] theorem State.notifySource_refusals (s : State) : (s.notifySource).refusals = s.refusals := rfl
@[simp] theorem State.notifySource_inbox (s : State) : (s.notifySource).inbox = s.inbox := rfl
@[simp] theorem State.notifySource_reg (s : State) (r : Reg) : (s.notifySource).reg r = s.reg r := rfl

/-! ### handToSink -/

@[simp] theorem State.handToSink_baud (s : State) (b : Byte) : (s.handToSink b).baud = s.baud := rfl
@[simp] theorem State.handToSink_rx (s : State) (b : Byte) : (s.handToSink b).rx = s.rx := rfl
@[simp] theorem State.handToSink_status (s : State) (b : Byte) : (s.handToSink b).status = s.status := rfl
@[simp] theorem State.handToSink_delay (s : State) (b : Byte) : (s.handToSink b).delay = s.delay := rfl
@[simp] theorem State.handToSink_control (s : State) (b : Byte) : (s.handToSink b).control = s.control := rfl
@[simp] theorem State.handToSink_interruptEnable (s : State) (b : Byte) : (s.handToSink b).interruptEnable = s.interruptEnable := rfl
@[simp] theorem State.handToSink_iqCycles (s : State) (b : Byte) : (s.handToSink b).iqCycles = s.iqCycles := rfl
@[simp] theorem State.handToSink_rxThreshold (s : State) (b : Byte) : (s.handToSink b).rxThreshold = s.rxThreshold := rfl
@[simp] theorem State.handToSink_phase (s : State) (b : Byte) : (s.handToSink b).phase = s.phase := rfl
@[simp] theorem State.handToSink_faultRx (s : State) (b : Byte) : (s.handToSink b).faultRx = s.faultRx := rfl
@[simp] theorem State.handToSink_responses (s : State) (b : Byte) : (s.handToSink b).responses = s.responses := rfl
@[simp] theorem State.handToSink_sink (s : State) (b : Byte) : (s.handToSink b).sink = s.sink ++ [b] := rfl
@[simp] theorem State.handToSink_notifies (s : State) (b : Byte) : (s.handToSink b).notifies = s.notifies := rfl
@[simp] theorem State.handToSink_diags (s : State) (b : Byte) : (s.handToSink b).diags = s.diags := rfl
@[simp] theorem State.handToSink_refusals (s : State) (b : Byte) : (s.handToSink b).refusals = s.refusals := rfl
@[simp] theorem State.handToSink_inbox (s : State) (b : Byte) : (s.handToSink b).inbox = s.inbox := rfl
@[simp] theorem State.handToSink_reg (s : State) (b : Byte) (r : Reg) : (s.handToSink b).reg r = s.reg r := rfl

/-! ### raiseRxFault -/

@[simp] theorem State.raiseRxFault_baud (s : State) : (s.raiseRxFault).baud = s.baud := rfl
@[simp] theorem State.raiseRxFault_rx (s : State) : (s.raiseRxFault).rx = s.rx := rfl
@[simp] theorem State.raiseRxFault_status (s : State) : (s.raiseRxFault).status = s.status := rfl
@[simp] theorem State.raiseRxFault_delay (s : State) : (s.raiseRxFault).delay = s.delay := rfl
@[simp] theorem State.raiseRxFault_control (s : State) : (s.raiseRxFault).control = s.control := rfl
@[simp] theorem State.raiseRxFault_interruptEnable (s : State) : (s.raiseRxFault).interruptEnable = s.interruptEnable := rfl
@[simp] theorem State.raiseRxFault_iqCycles (s : State) : (s.raiseRxFault).iqCycles = s.iqCycles := rfl
@[simp] theorem State.raiseRxFault_rxThreshold (s : State) : (s.raiseRxFault).rxThreshold = s.rxThreshold := rfl
@[simp] theorem State.raiseRxFault_phase (s : State) : (s.raiseRxFault).phase = s.phase := rfl
@[simp] theorem State.raiseRxFault_faultRx (s : State) : (s.raiseRxFault).faultRx = true := rfl
@[simp] theorem State.raiseRxFault_responses (s : State) : (s.raiseRxFault).responses = s.responses := rfl
@[simp] theorem State.raiseRxFault_sink (s : State) : (s.raiseRxFault).sink = s.sink := rfl
@[simp] theorem State.raiseRxFault_notifies (s : State) : (s.raiseRxFault).notifies = s.notifies := rfl
@[simp] theorem State.raiseRxFault_diags (s : State) : (s.raiseRxFault).diags = s.diags := rfl
@[simp] theorem State.raiseRxFault_refusals (s : State) : (s.raiseRxFault).refusals = s.refusals := rfl
@[simp] theorem State.raiseRxFault_inbox (s : State) : (s.raiseRxFault).inbox = s.inbox := rfl
@[simp] theorem State.raiseRxFault_reg (s : State) (r : Reg) : (s.raiseRxFault).reg r = s.reg r := rfl

/-! ### recordRefusal -/

@[simp] theorem State.recordRefusal_baud (s : State) (f : Refusal) : (s.recordRefusal f).baud = s.baud := rfl
@[simp] theorem State.recordRefusal_rx (s : State) (f : Refusal) : (s.recordRefusal f).rx = s.rx := rfl
@[simp] theorem State.recordRefusal_status (s : State) (f : Refusal) : (s.recordRefusal f).status = s.status := rfl
@[simp] theorem State.recordRefusal_delay (s : State) (f : Refusal) : (s.recordRefusal f).delay = s.delay := rfl
@[simp] theorem State.recordRefusal_control (s : State) (f : Refusal) : (s.recordRefusal f).control = s.control := rfl
@[simp] theorem State.recordRefusal_interruptEnable (s : State) (f : Refusal) : (s.recordRefusal f).interruptEnable = s.interruptEnable := rfl
@[simp] theorem State.recordRefusal_iqCycles (s : State) (f : Refusal) : (s.recordRefusal f).iqCycles = s.iqCycles := rfl
@[simp] theorem State.recordRefusal_rxThreshold (s : State) (f : Refusal) : (s.recordRefusal f).rxThreshold = s.rxThreshold := rfl
@[simp] theorem State.recordRefusal_phase (s : State) (f : Refusal) : (s.recordRefusal f).phase = s.phase := rfl
@[simp] theorem State.recordRefusal_faultRx (s : State) (f : Refusal) : (s.recordRefusal f).faultRx = s.faultRx := rfl
@[simp] theorem State.recordRefusal_responses (s : State) (f : Refusal) : (s.recordRefusal f).responses = s.responses := rfl
@[simp] theorem State.recordRefusal_sink (s : State) (f : Refusal) : (s.recordRefusal f).sink = s.sink := rfl
@[simp] theorem State.recordRefusal_notifies (s : State) (f : Refusal) : (s.recordRefusal f).notifies = s.notifies := rfl
@[simp] theorem State.recordRefusal_diags (s : State) (f : Refusal) : (s.recordRefusal f).diags = s.diags := rfl
@[simp] theorem State.recordRefusal_refusals (s : State) (f : Refusal) : (s.recordRefusal f).refusals = s.refusals ++ [f] := rfl
@[simp] theorem State.recordRefusal_inbox (s : State) (f : Refusal) : (s.recordRefusal f).inbox = s.inbox := rfl
@[simp] theorem State.recordRefusal_reg (s : State) (f : Refusal) (r : Reg) : (s.recordRefusal f).reg r = s.reg r := rfl

/-! ### release -/

@[simp] theorem State.release_baud (s : State) : (s.release).baud = s.baud := rfl
@[simp] theorem State.release_rx (s : State) : (s.release).rx = s.rx := rfl
@[simp] theorem State.release_status (s : State) : (s.release).status = s.status := rfl
@[simp] theorem State.release_delay (s : State) : (s.release).delay = s.delay := rfl
@[simp] theorem State.release_control (s : State) : (s.release).control = s.control := rfl
@[simp] theorem State.release_interruptEnable (s : State) : (s.release).interruptEnable = s.interruptEnable := rfl
@[simp] theorem State.release_iqCycles (s : State) : (s.release).iqCycles = s.iqCycles := rfl
@[simp] theorem State.release_rxThreshold (s : State) : (s.release).rxThreshold = s.rxThreshold := rfl
@[simp] theorem State.release_phase (s : State) : (s.release).phase = .destroyed := rfl
@[simp] theorem State.release_faultRx (s : State) : (s.release).faultRx = s.faultRx := rfl
@[simp] theorem State.release_responses (s : State) : (s.release).responses = s.responses := rfl
@[simp] theorem State.release_sink (s : State) : (s.release).sink = s.sink := rfl
@[simp] theorem State.release_notifies (s : State) : (s.release).notifies = s.notifies := rfl
@[simp] theorem State.release_diags (s : State) : (s.release).diags = s.diags := rfl
@[simp] theorem State.release_refusals (s : State) : (s.release).refusals = s.refusals := rfl
@[simp] theorem State.release_inbox (s : State) : (s.release).inbox = s.inbox := rfl
@[simp] theorem State.release_reg (s : State) (r : Reg) : (s.release).reg r = s.reg r := rfl

/-! ### present -/

@[simp] theorem State.present_baud (s : State) (q : Request) : (s.present q).baud = s.baud := rfl
@[simp] theorem State.present_rx (s : State) (q : Request) : (s.present q).rx = s.rx := rfl
@[simp] theorem State.present_status (s : State) (q : Request) : (s.present q).status = s.status := rfl
@[simp] theorem State.present_delay (s : State) (q : Request) : (s.present q).delay = s.delay := rfl
@[simp] theorem State.present_control (s : State) (q : Request) : (s.present q).control = s.control := rfl
@[simp] theorem State.present_interruptEnable (s : State) (q : Request) : (s.present q).interruptEnable = s.interruptEnable := rfl
@[simp] theorem State.present_iqCycles (s : State) (q : Request) : (s.present q).iqCycles = s.iqCycles := rfl
@[simp] theorem State.present_rxThreshold (s : State) (q : Request) : (s.present q).rxThreshold = s.rxThreshold := rfl
@[simp] theorem State.present_phase (s : State) (q : Request) : (s.present q).phase = s.phase := rfl
@[simp] theorem State.present_faultRx (s : State) (q : Request) : (s.present q).faultRx = s.faultRx := rfl
@[simp] theorem State.present_responses (s : State) (q : Request) : (s.present q).responses = s.responses := rfl
@[simp] theorem State.present_sink (s : State) (q : Request) : (s.present q).sink = s.sink := rfl
@[simp] theorem State.present_notifies (s : State) (q : Request) : (s.present q).notifies = s.notifies := rfl
@[simp] theorem State.present_diags (s : State) (q : Request) : (s.present q).diags = s.diags := rfl
@[simp] theorem State.present_refusals (s : State) (q : Request) : (s.present q).refusals = s.refusals := rfl
@[simp] theorem State.present_inbox (s : State) (q : Request) : (s.present q).inbox = s.inbox ++ [q] := rfl
@[simp] theorem State.present_reg (s : State) (q : Request) (r : Reg) : (s.present q).reg r = s.reg r := rfl

/-! ### presentFirst -/

@[simp] theorem State.presentFirst_baud (s : State) (q : Request) : (s.presentFirst q).baud = s.baud := rfl
@[simp] theorem State.presentFirst_rx (s : State) (q : Request) : (s.presentFirst q).rx = s.rx := rfl
@[simp] theorem State.presentFirst_status (s : State) (q : Request) : (s.presentFirst q).status = s.status := rfl
@[simp] theorem State.presentFirst_delay (s : State) (q : Request) : (s.presentFirst q).delay = s.delay := rfl
@[simp] theorem State.presentFirst_control (s : State) (q : Request) : (s.presentFirst q).control = s.control := rfl
@[simp] theorem State.presentFirst_interruptEnable (s : State) (q : Request) : (s.presentFirst q).interruptEnable = s.interruptEnable := rfl
@[simp] theorem State.presentFirst_iqCycles (s : State) (q : Request) : (s.presentFirst q).iqCycles = s.iqCycles := rfl
@[simp] theorem State.presentFirst_rxThreshold (s : State) (q : Request) : (s.presentFirst q).rxThreshold = s.rxThreshold := rfl
@[simp] theorem State.presentFirst_phase (s : State) (q : Request) : (s.presentFirst q).phase = s.phase := rfl
@[simp] theorem State.presentFirst_faultRx (s : State) (q : Request) : (s.presentFirst q).faultRx = s.faultRx := rfl
@[simp] theorem State.presentFirst_responses (s : State) (q : Request) : (s.presentFirst q).responses = s.responses := rfl
@[simp] theorem State.presentFirst_sink (s : State) (q : Request) : (s.presentFirst q).sink = s.sink := rfl
@[simp] theorem State.presentFirst_notifies (s : State) (q : Request) : (s.presentFirst q).notifies = s.notifies := rfl
@[simp] theorem State.presentFirst_diags (s : State) (q : Request) : (s.presentFirst q).diags = s.diags := rfl
@[simp] theorem State.presentFirst_refusals (s : State) (q : Request) : (s.presentFirst q).refusals = s.refusals := rfl
@[simp] theorem State.presentFirst_inbox (s : State) (q : Request) : (s.presentFirst q).inbox = q :: s.inbox := rfl
@[simp] theorem State.presentFirst_reg (s : State) (q : Request) (r : Reg) : (s.presentFirst q).reg r = s.reg r := rfl

/-! ### withInbox -/

@[simp] theorem State.withInbox_baud (s : State) (qs : List Request) : (s.withInbox qs).baud = s.baud := rfl
@[simp] theorem State.withInbox_rx (s : State) (qs : List Request) : (s.withInbox qs).rx = s.rx := rfl
@[simp] theorem State.withInbox_status (s : State) (qs : List Request) : (s.withInbox qs).status = s.status := rfl
@[simp] theorem State.withInbox_delay (s : State) (qs : List Request) : (s.withInbox qs).delay = s.delay := rfl
@[simp] theorem State.withInbox_control (s : State) (qs : List Request) : (s.withInbox qs).control = s.control := rfl
@[simp] theorem State.withInbox_interruptEnable (s : State) (qs : List Request) : (s.withInbox qs).interruptEnable = s.interruptEnable := rfl
@[simp] theorem State.withInbox_iqCycles (s : State) (qs : List Request) : (s.withInbox qs).iqCycles = s.iqCycles := rfl
@[simp] theorem State.withInbox_rxThreshold (s : State) (qs : List Request) : (s.withInbox qs).rxThreshold = s.rxThreshold := rfl
@[simp] theorem State.withInbox_phase (s : State) (qs : List Request) : (s.withInbox qs).phase = s.phase := rfl
@[simp] theorem State.withInbox_faultRx (s : State) (qs : List Request) : (s.withInbox qs).faultRx = s.faultRx := rfl
@[simp] theorem State.withInbox_responses (s : State) (qs : List Request) : (s.withInbox qs).responses = s.responses := rfl
@[simp] theorem State.withInbox_sink (s : State) (qs : List Request) : (s.withInbox qs).sink = s.sink := rfl
@[simp] theorem State.withInbox_notifies (s : State) (qs : List Request) : (s.withInbox qs).notifies = s.notifies := rfl
@[simp] theorem State.withInbox_diags (s : State) (qs : List Request) : (s.withInbox qs).diags = s.diags := rfl
@[simp] theorem State.withInbox_refusals (s : State) (qs : List Request) : (s.withInbox qs).refusals = s.refusals := rfl
@[simp] theorem State.withInbox_inbox (s : State) (qs : List Request) : (s.withInbox qs).inbox = qs := rfl
@[simp] theorem State.withInbox_reg (s : State) (qs : List Request) (r : Reg) : (s.withInbox qs).reg r = s.reg r := rfl

/-! ### applyReset -/

@[simp] theorem State.applyReset_baud (s : State) : (s.applyReset).baud = resetValue .baud := rfl
@[simp] theorem State.applyReset_rx (s : State) : (s.applyReset).rx = resetValue .rx := rfl
@[simp] theorem State.applyReset_status (s : State) : (s.applyReset).status = resetValue .status := rfl
@[simp] theorem State.applyReset_delay (s : State) : (s.applyReset).delay = resetValue .delay := rfl
@[simp] theorem State.applyReset_control (s : State) : (s.applyReset).control = resetValue .control := rfl
@[simp] theorem State.applyReset_interruptEnable (s : State) : (s.applyReset).interruptEnable = resetValue .interruptEnable := rfl
@[simp] theorem State.applyReset_iqCycles (s : State) : (s.applyReset).iqCycles = resetValue .iqCycles := rfl
@[simp] theorem State.applyReset_rxThreshold (s : State) : (s.applyReset).rxThreshold = resetValue .rxThreshold := rfl
@[simp] theorem State.applyReset_phase (s : State) : (s.applyReset).phase = .reset := rfl
@[simp] theorem State.applyReset_faultRx (s : State) : (s.applyReset).faultRx = s.faultRx := rfl
@[simp] theorem State.applyReset_responses (s : State) : (s.applyReset).responses = s.responses := rfl
@[simp] theorem State.applyReset_sink (s : State) : (s.applyReset).sink = s.sink := rfl
@[simp] theorem State.applyReset_notifies (s : State) : (s.applyReset).notifies = s.notifies := rfl
@[simp] theorem State.applyReset_diags (s : State) : (s.applyReset).diags = s.diags := rfl
@[simp] theorem State.applyReset_refusals (s : State) : (s.applyReset).refusals = s.refusals := rfl
@[simp] theorem State.applyReset_inbox (s : State) : (s.applyReset).inbox = s.inbox := rfl
@[simp] theorem State.applyReset_reg (s : State) (r : Reg) : s.applyReset.reg r = resetValue r := by cases r <;> rfl

/-! ### receiveByte -/

@[simp] theorem State.receiveByte_baud (s : State) (b : Byte) : (s.receiveByte b).baud = s.baud := rfl
@[simp] theorem State.receiveByte_rx (s : State) (b : Byte) : (s.receiveByte b).rx = rxWord b := rfl
@[simp] theorem State.receiveByte_status (s : State) (b : Byte) : (s.receiveByte b).status = statusAfterDelivery s.status := rfl
@[simp] theorem State.receiveByte_delay (s : State) (b : Byte) : (s.receiveByte b).delay = s.delay := rfl
@[simp] theorem State.receiveByte_control (s : State) (b : Byte) : (s.receiveByte b).control = s.control := rfl
@[simp] theorem State.receiveByte_interruptEnable (s : State) (b : Byte) : (s.receiveByte b).interruptEnable = s.interruptEnable := rfl
@[simp] theorem State.receiveByte_iqCycles (s : State) (b : Byte) : (s.receiveByte b).iqCycles = s.iqCycles := rfl
@[simp] theorem State.receiveByte_rxThreshold (s : State) (b : Byte) : (s.receiveByte b).rxThreshold = s.rxThreshold := rfl
@[simp] theorem State.receiveByte_phase (s : State) (b : Byte) : (s.receiveByte b).phase = s.phase := rfl
@[simp] theorem State.receiveByte_faultRx (s : State) (b : Byte) : (s.receiveByte b).faultRx = s.faultRx := rfl
@[simp] theorem State.receiveByte_responses (s : State) (b : Byte) : (s.receiveByte b).responses = s.responses := rfl
@[simp] theorem State.receiveByte_sink (s : State) (b : Byte) : (s.receiveByte b).sink = s.sink := rfl
@[simp] theorem State.receiveByte_notifies (s : State) (b : Byte) : (s.receiveByte b).notifies = s.notifies := rfl
@[simp] theorem State.receiveByte_diags (s : State) (b : Byte) : (s.receiveByte b).diags = s.diags := rfl
@[simp] theorem State.receiveByte_refusals (s : State) (b : Byte) : (s.receiveByte b).refusals = s.refusals := rfl
@[simp] theorem State.receiveByte_inbox (s : State) (b : Byte) : (s.receiveByte b).inbox = s.inbox := rfl

/-! ### consumeByte -/

@[simp] theorem State.consumeByte_baud (s : State) : (s.consumeByte).baud = s.baud := rfl
@[simp] theorem State.consumeByte_rx (s : State) : (s.consumeByte).rx = s.rx := rfl
@[simp] theorem State.consumeByte_status (s : State) : (s.consumeByte).status = statusAfterRxRead s.status := rfl
@[simp] theorem State.consumeByte_delay (s : State) : (s.consumeByte).delay = s.delay := rfl
@[simp] theorem State.consumeByte_control (s : State) : (s.consumeByte).control = s.control := rfl
@[simp] theorem State.consumeByte_interruptEnable (s : State) : (s.consumeByte).interruptEnable = s.interruptEnable := rfl
@[simp] theorem State.consumeByte_iqCycles (s : State) : (s.consumeByte).iqCycles = s.iqCycles := rfl
@[simp] theorem State.consumeByte_rxThreshold (s : State) : (s.consumeByte).rxThreshold = s.rxThreshold := rfl
@[simp] theorem State.consumeByte_phase (s : State) : (s.consumeByte).phase = s.phase := rfl
@[simp] theorem State.consumeByte_faultRx (s : State) : (s.consumeByte).faultRx = s.faultRx := rfl
@[simp] theorem State.consumeByte_responses (s : State) : (s.consumeByte).responses = s.responses := rfl
@[simp] theorem State.consumeByte_sink (s : State) : (s.consumeByte).sink = s.sink := rfl
@[simp] theorem State.consumeByte_notifies (s : State) : (s.consumeByte).notifies = s.notifies + 1 := rfl
@[simp] theorem State.consumeByte_diags (s : State) : (s.consumeByte).diags = s.diags := rfl
@[simp] theorem State.consumeByte_refusals (s : State) : (s.consumeByte).refusals = s.refusals := rfl
@[simp] theorem State.consumeByte_inbox (s : State) : (s.consumeByte).inbox = s.inbox := rfl

/-! ### forwardToSink: the same for either answer -/

@[simp] theorem State.forwardToSink_eq (s : State) (b : Byte) (a : SinkAnswer) :
    s.forwardToSink b a = (s.handToSink b).setReg .status (statusAfterTxWrite s.status) := rfl

/-! ### Reset and construction -/

@[simp] theorem State.reset_reg (r : Reg) : State.reset.reg r = resetValue r := by cases r <;> rfl

end Sys2Proof.Machine
end

