-- ==== Sys2Proof/Laws/Flags.lean ====
section
/-! SUPPORT. What the flag computations and `narrow` do, bit by bit. -/

namespace Sys2Proof.Machine

/-- Setting bit `i` sets that bit and no other. -/
theorem getLsbD_setBit (v : Word) (i n : Nat) (hi : i < 32) :
    (setBit v i).getLsbD n = (v.getLsbD n || decide (n = i)) := by
  unfold setBit
  by_cases hn : n < 32
  · by_cases h : n = i
    · subst h; simp [hn]
    · rw [BitVec.getLsbD_or, BitVec.getLsbD_shiftLeft, BitVec.getLsbD_one]
      by_cases hlt : n < i
      · simp [hn, h, hlt]
      · simp [hn, h, hlt]; omega
  · have h : n ≠ i := by omega
    simp [h, BitVec.getLsbD_of_ge _ n (by omega : 32 ≤ n)]

/-- Clearing bit `i` clears that bit and no other. -/
theorem getLsbD_clearBit (v : Word) (i n : Nat) (hi : i < 32) :
    (clearBit v i).getLsbD n = (v.getLsbD n && !(decide (n = i))) := by
  unfold clearBit
  by_cases hn : n < 32
  · by_cases h : n = i
    · subst h; simp [hn]
    · rw [BitVec.getLsbD_and, BitVec.getLsbD_not, BitVec.getLsbD_shiftLeft, BitVec.getLsbD_one]
      by_cases hlt : n < i
      · simp [hn, h, hlt]
      · simp [hn, h, hlt]; omega
  · simp [BitVec.getLsbD_of_ge _ n (by omega : 32 ≤ n)]

/-- RX_NOT_EMPTY is set by a delivery, the other bits are kept. -/
theorem getLsbD_statusAfterDelivery (v : Word) (n : Nat) :
    (statusAfterDelivery v).getLsbD n = (v.getLsbD n || decide (n = 2)) :=
  getLsbD_setBit v 2 n (by decide)

/-- RX_NOT_EMPTY is cleared by an RX read, the other bits are kept. -/
theorem getLsbD_statusAfterRxRead (v : Word) (n : Nat) :
    (statusAfterRxRead v).getLsbD n = (v.getLsbD n && !(decide (n = 2))) :=
  getLsbD_clearBit v 2 n (by decide)

/-- TX_FULL is cleared by a TX write, the other bits are kept. -/
theorem getLsbD_statusAfterTxWrite (v : Word) (n : Nat) :
    (statusAfterTxWrite v).getLsbD n = (v.getLsbD n && !(decide (n = 1))) :=
  getLsbD_clearBit v 1 n (by decide)

@[simp] theorem statusAfterDelivery_two (v : Word) : (statusAfterDelivery v)[2] = true := by
  rw [← BitVec.getLsbD_eq_getElem, getLsbD_statusAfterDelivery]; simp

@[simp] theorem statusAfterRxRead_two (v : Word) : (statusAfterRxRead v)[2] = false := by
  rw [← BitVec.getLsbD_eq_getElem, getLsbD_statusAfterRxRead]; simp

@[simp] theorem statusAfterTxWrite_two (v : Word) : (statusAfterTxWrite v)[2] = v[2] := by
  rw [← BitVec.getLsbD_eq_getElem, getLsbD_statusAfterTxWrite]; simp

@[simp] theorem statusAfterTxWrite_one (v : Word) : (statusAfterTxWrite v)[1] = false := by
  rw [← BitVec.getLsbD_eq_getElem, getLsbD_statusAfterTxWrite]; simp

/-- A delivery changes RX and STATUS only. -/
theorem State.receiveByte_reg (s : State) (b : Byte) (r : Reg) (h1 : r ≠ .rx) (h2 : r ≠ .status) :
    (s.receiveByte b).reg r = s.reg r := by
  cases r <;> first | rfl | exact absurd rfl h1 | exact absurd rfl h2

/-- An RX read changes STATUS only. -/
theorem State.consumeByte_reg (s : State) (r : Reg) (h : r ≠ .status) : s.consumeByte.reg r = s.reg r := by
  cases r <;> first | rfl | exact absurd rfl h

/-- The predicate and the level are each other's negation. -/
theorem canAccept_eq_not_irq (s : State) : canAccept s = !(irq s) := rfl

/-- The level depends on STATUS alone. -/
theorem irq_congr {s t : State} (h : t.status = s.status) : irq t = irq s := by
  unfold irq; rw [h]

/-- A width covers its low `8*w` bits and zeroes the others. -/
theorem getLsbD_narrow {n : Nat} (v : BitVec n) (w : Width) (k : Nat) :
    (narrow v w).getLsbD k = (decide (k < widthBits w) && v.getLsbD k) := by
  cases w <;> simp only [narrow, widthBits, BitVec.getLsbD_setWidth]
  · by_cases h : k < 8
    · simp [h, (by omega : k < 32)]
    · simp [h]
  · by_cases h : k < 16
    · simp [h, (by omega : k < 32)]
    · simp [h]
  · rfl

/-- A full-width read of a register is the register. -/
theorem narrow_four (v : Word) : narrow v .four = v := by simp [narrow]

end Sys2Proof.Machine
end

