-- ==== Sys2Proof/Laws/Ops.lean ====
section
/-! SUPPORT. One lemma per shared operation: everything it can do. -/

namespace Sys2Proof.Machine

/-- The live branch. -/
theorem whenLive_of_live {s : State} (h : Live s) (k : Host.Outcome State Fault Refusal) : whenLive s k = k := by
  unfold whenLive
  cases hp : s.phase <;> first | rfl | exact absurd hp h

/-- The destroyed branch. -/
theorem whenLive_of_destroyed {s : State} (h : s.phase = .destroyed) (k : Host.Outcome State Fault Refusal) :
    whenLive s k = .refused .destroyed := by
  unfold whenLive refuse; rw [h]

/-- A guarded operation answers a next state only on a live instance, and then what the operation answers. -/
theorem whenLive_next {s t : State} {k : Host.Outcome State Fault Refusal} (h : whenLive s k = .next t) :
    Live s ∧ k = .next t := by
  by_cases hp : s.phase = .destroyed
  · rw [whenLive_of_destroyed hp] at h; cases h
  · exact ⟨hp, by rwa [whenLive_of_live hp] at h⟩

/-- The phase step ends in Operating on a live instance. -/
theorem phaseAfterAccess_of_live {p : Phase} (h : p ≠ .destroyed) : phaseAfterAccess p = .operating := by
  cases p <;> first | rfl | exact absurd rfl h

/-- A live instance drives its level. -/
theorem irqLine_of_live {s : State} (h : Live s) : irqLine s = some (irq s) := by
  unfold irqLine
  cases hp : s.phase <;> first | rfl | exact absurd hp h

/-- A destroyed instance drives nothing. -/
theorem irqLine_of_destroyed {s : State} (h : s.phase = .destroyed) : irqLine s = none := by
  unfold irqLine; rw [h]

theorem readStored_next {r : Reg} {w : Width} {s t : State} (h : readStored r w s = .next t) :
    Live s ∧ t = (s.respond (.data (narrow (s.reg r) w))).operate := by
  obtain ⟨hl, h⟩ := whenLive_next h
  exact ⟨hl, by cases h; rfl⟩

theorem writeStored_next {r : Reg} {w : Width} {wdata : BusWord} {s t : State} (h : writeStored r w wdata s = .next t) :
    Live s ∧ t = (s.setReg r (narrow wdata w)).operate := by
  obtain ⟨hl, h⟩ := whenLive_next h
  exact ⟨hl, by cases h; rfl⟩

theorem invalidRead_next {k : DiagKind} {off : Word} {w : Width} {s t : State} (h : invalidRead k off w s = .next t) :
    Live s ∧ t = ((s.emitDiag ⟨k, .read, off, w⟩).respond (.data 0x00000000#32)).operate := by
  obtain ⟨hl, h⟩ := whenLive_next h
  exact ⟨hl, by cases h; rfl⟩

theorem invalidWrite_next {k : DiagKind} {off : Word} {w : Width} {s t : State} (h : invalidWrite k off w s = .next t) :
    Live s ∧ t = (s.emitDiag ⟨k, .write, off, w⟩).operate := by
  obtain ⟨hl, h⟩ := whenLive_next h
  exact ⟨hl, by cases h; rfl⟩

theorem execDeliver_next {b : Byte} {s t : State} (h : execDeliver b s = .next t) :
    Live s ∧ ((canAccept s = true ∧ t = (s.receiveByte b).operate) ∨
      (canAccept s = false ∧ t = s.raiseRxFault.operate)) := by
  obtain ⟨hl, h⟩ := whenLive_next h
  refine ⟨hl, ?_⟩
  cases hc : canAccept s
  · rw [hc] at h; exact .inr ⟨rfl, by cases h; rfl⟩
  · rw [hc] at h; exact .inl ⟨rfl, by cases h; rfl⟩

theorem execCanAccept_next {s t : State} (h : execCanAccept s = .next t) :
    Live s ∧ t = s.respond (.accept (canAccept s)) := by
  obtain ⟨hl, h⟩ := whenLive_next h
  exact ⟨hl, by cases h; rfl⟩

theorem execRdRx_next {w : Width} {s t : State} (h : execRdRx w s = .next t) :
    Live s ∧ t = (s.consumeByte.respond (.data (narrow s.rx w))).operate := by
  obtain ⟨hl, h⟩ := whenLive_next h
  exact ⟨hl, by cases h; rfl⟩

theorem writeTx_next {a : SinkAnswer} {wdata : BusWord} {s t : State} (h : writeTx a wdata s = .next t) :
    Live s ∧ t = ((s.handToSink (txByte wdata)).setReg .status (statusAfterTxWrite s.status)).operate := by
  obtain ⟨hl, h⟩ := whenLive_next h
  rw [State.forwardToSink_eq] at h
  exact ⟨hl, by cases h; rfl⟩

theorem execReset_next {s t : State} (h : execReset s = .next t) : Live s ∧ t = s.applyReset := by
  obtain ⟨hl, h⟩ := whenLive_next h
  exact ⟨hl, by cases h; rfl⟩

theorem execDestroy_next {s t : State} (h : execDestroy s = .next t) : Live s ∧ t = s.release := by
  obtain ⟨hl, h⟩ := whenLive_next h
  exact ⟨hl, by cases h; rfl⟩

/-- A refused row never answers a next state. -/
theorem whenLive_refuse_ne_next (s t : State) (r : Refusal) : whenLive s (refuse r) ≠ .next t := by
  intro h
  obtain ⟨-, h⟩ := whenLive_next h
  cases h

/-- What a transaction can do: it is refused and only the record grows, or its meaning's next state is the state. -/
theorem transact_cases (q : Request) (s : State) :
    (∃ r, exec (instrOf q s) s = .refused r ∧ transact q s = .next (s.recordRefusal r)) ∨
    (∃ t, exec (instrOf q s) s = .next t ∧ transact q s = .next t) := by
  unfold transact instrOf settleOutcome
  cases h : exec (decode s.phase Config.regionSize q) s with
  | next t => exact .inr ⟨t, rfl, rfl⟩
  | fault f => cases f
  | refused r => exact .inl ⟨r, rfl, rfl⟩

/-- The same of the state after one request. -/
theorem serve_cases (q : Request) (s : State) :
    (∃ r, exec (instrOf q s) s = .refused r ∧ serve q s = s.recordRefusal r) ∨
    exec (instrOf q s) s = .next (serve q s) := by
  rcases transact_cases q s with ⟨r, h, e⟩ | ⟨t, h, e⟩
  · exact .inl ⟨r, h, by unfold serve; rw [e]⟩
  · refine .inr ?_
    unfold serve; rw [e]; exact h

@[simp] theorem serveAll_nil (s : State) : serveAll [] s = s := rfl
@[simp] theorem serveAll_cons (q : Request) (qs : List Request) (s : State) :
    serveAll (q :: qs) s = serveAll qs (serve q s) := rfl
@[simp] theorem trace_nil (s : State) : trace [] s = [] := rfl
@[simp] theorem trace_cons (q : Request) (qs : List Request) (s : State) :
    trace (q :: qs) s = instrOf q s :: trace qs (serve q s) := rfl

end Sys2Proof.Machine
end

