-- ==== Sys2Proof/Laws/Exec.lean ====
section
/-! SUPPORT. Said once: everything an instruction can do. A live instance that is given no refused row goes to one state,
`effect`; in every other case the instruction is refused. -/

namespace Sys2Proof.Machine

/-- The state an accepted instruction leaves on a live instance. A refused row leaves the state as it was. -/
def effect (i : Instr) (s : State) : State :=
  match i with
  | .refusedDestroyed _ => s
  | .refusedReservedBits _ => s
  | .refusedWidth _ _ => s
  | .refusedWindow _ _ _ => s
  | .refusedForm _ => s
  | .rdBaud w => (s.respond (.data (narrow (s.reg .baud) w))).operate
  | .rdStatus w => (s.respond (.data (narrow (s.reg .status) w))).operate
  | .rdDelay w => (s.respond (.data (narrow (s.reg .delay) w))).operate
  | .rdControl w => (s.respond (.data (narrow (s.reg .control) w))).operate
  | .rdIe w => (s.respond (.data (narrow (s.reg .interruptEnable) w))).operate
  | .rdIqc w => (s.respond (.data (narrow (s.reg .iqCycles) w))).operate
  | .rdRxt w => (s.respond (.data (narrow (s.reg .rxThreshold) w))).operate
  | .wrBaud w wdata => (s.setReg .baud (narrow wdata w)).operate
  | .wrStatus w wdata => (s.setReg .status (narrow wdata w)).operate
  | .wrDelay w wdata => (s.setReg .delay (narrow wdata w)).operate
  | .wrControl w wdata => (s.setReg .control (narrow wdata w)).operate
  | .wrIe w wdata => (s.setReg .interruptEnable (narrow wdata w)).operate
  | .wrIqc w wdata => (s.setReg .iqCycles (narrow wdata w)).operate
  | .wrRxt w wdata => (s.setReg .rxThreshold (narrow wdata w)).operate
  | .rdTx w => ((s.emitDiag ⟨.readOfWriteOnly, .read, 0x04#32, w⟩).respond (.data 0x00000000#32)).operate
  | .wrRx w _ => (s.emitDiag ⟨.writeOfReadOnly, .write, 0x08#32, w⟩).operate
  | .rdBadoff w off => ((s.emitDiag ⟨.badOffset, .read, off, w⟩).respond (.data 0x00000000#32)).operate
  | .wrBadoff w off _ => (s.emitDiag ⟨.badOffset, .write, off, w⟩).operate
  | .rdRx w => (s.consumeByte.respond (.data (narrow s.rx w))).operate
  | .wrTx _ wdata => ((s.handToSink (txByte wdata)).setReg .status (statusAfterTxWrite s.status)).operate
  | .deliver b => if canAccept s then (s.receiveByte b).operate else s.raiseRxFault.operate
  | .canAccept => s.respond (.accept (canAccept s))
  | .reset => s.applyReset
  | .destroy => s.release

/-- On a destroyed instance every instruction is refused with DESTROYED. -/
theorem exec_of_destroyed (i : Instr) {s : State} (h : s.phase = .destroyed) : exec i s = .refused .destroyed := by
  cases i <;> exact whenLive_of_destroyed h _

/-- On a live instance an instruction that is no refused row goes to its `effect`. -/
theorem exec_of_live {i : Instr} {s : State} (hl : Live s) (hr : isRefusedRow i = false) :
    exec i s = .next (effect i s) := by
  cases i <;> first | exact whenLive_of_live hl _ | cases hr
  case deliver b =>
    refine (whenLive_of_live hl _).trans ?_
    unfold effect
    by_cases hc : canAccept s = true <;> simp [hc]

/-- A refused row goes nowhere. -/
theorem exec_refusedRow_ne_next {i : Instr} {s t : State} (hr : isRefusedRow i = true) : exec i s ≠ .next t := by
  cases i <;> first | exact whenLive_refuse_ne_next s t _ | cases hr

/-- The inversion of `exec`: a next state comes from a live instance and an accepted instruction, and is its `effect`. -/
theorem exec_next {i : Instr} {s t : State} (h : exec i s = .next t) :
    Live s ∧ isRefusedRow i = false ∧ t = effect i s := by
  have hl : Live s := fun hd => by rw [exec_of_destroyed i hd] at h; cases h
  have hr : isRefusedRow i = false := by
    cases hi : isRefusedRow i
    · rfl
    · exact absurd h (exec_refusedRow_ne_next hi)
  refine ⟨hl, hr, ?_⟩
  rw [exec_of_live hl hr] at h
  cases h; rfl

/-! ### What every effect leaves -/

@[simp] theorem phaseAfterAccess_idem (p : Phase) : phaseAfterAccess (phaseAfterAccess p) = phaseAfterAccess p := by
  cases p <;> rfl

@[simp] theorem effect_refusals (i : Instr) (s : State) : (effect i s).refusals = s.refusals := by
  cases i <;> simp [effect]
  split <;> simp

@[simp] theorem effect_inbox (i : Instr) (s : State) : (effect i s).inbox = s.inbox := by
  cases i <;> simp [effect]
  split <;> simp

/-! ### One request, one step -/

theorem serve_of_next {q : Request} {s t : State} (h : exec (instrOf q s) s = .next t) : serve q s = t := by
  rcases serve_cases q s with ⟨r, h', -⟩ | h' <;> rw [h] at h' <;> cases h'
  rfl

theorem serve_of_refused {q : Request} {s : State} {r : Refusal} (h : exec (instrOf q s) s = .refused r) :
    serve q s = s.recordRefusal r := by
  rcases serve_cases q s with ⟨r', h', e⟩ | h' <;> rw [h] at h' <;> cases h'
  exact e

theorem step_of_nil {s : State} (h : s.inbox = []) : step s = .next s := by
  unfold step takeNext; rw [h]

theorem step_of_cons {s : State} {q : Request} {rest : List Request} (h : s.inbox = q :: rest) :
    step s = .next (serve q (s.withInbox rest)) := by
  unfold step takeNext; rw [h]
  rcases transact_cases q (s.withInbox rest) with ⟨r, -, e⟩ | ⟨t, -, e⟩ <;> simp [serve, e]

/-- A run of the host's goes on from a step's next state. -/
theorem run_succ_of_next (M : Host.Core) {k : Nat} {s t : M.State} (h : M.step s = .next t) : M.run (k + 1) s = M.run k t := by
  rw [Host.Core.run.eq_def]; simp only [h]

/-! ### The words of the register slots -/

/-- Every slot lies in the window. -/
theorem slotOffset_lt_regionSize (k : Slot) : ¬ Config.regionSize ≤ (slotOffset k).toNat := by
  have h1 := Config.regionSize_ge
  have h2 : (slotOffset k).toNat ≤ 0x20 := by cases k <;> decide
  omega

/-- A read at a slot is the slot's read row. -/
theorem readEncodes_slot (k : Slot) (w : Width) {s : State} (hl : Live s) :
    ReadEncodes (slotOffset k) w s (decodeRead w (slotOffset k)) := by
  intro payload
  rw [read_descriptor_eq_pack]
  simp [instrOf, decode, hl, decodeCpu, descPort_pack, descRsv_pack, descSz_pack, descOff_pack, descDir_pack,
    slotOffset_lt_regionSize k]

/-- A write at a slot is the slot's write row. -/
theorem writeEncodes_slot (k : Slot) (w : Width) (wdata : BusWord) {s : State} (hl : Live s) :
    WriteEncodes (slotOffset k) w wdata s (decodeWrite w (slotOffset k) wdata) := by
  unfold WriteEncodes
  rw [write_descriptor_eq_pack]
  simp [instrOf, decode, hl, decodeCpu, descPort_pack, descRsv_pack, descSz_pack, descOff_pack, descDir_pack,
    slotOffset_lt_regionSize k]

end Sys2Proof.Machine
end

