-- ==== Sys2Proof/Laws/PerInstr.lean ====
section
/-! SUPPORT. What holds of each instruction as syntax, one lemma per constructor. -/

namespace Sys2Proof.Laws.EncodedInRow

/-- The instruction's encoding lies in the pattern of the row of spec/opcode_table.json that bears its name (R90). -/
def Statement (i : Instr) : Prop :=
  ∃ r ∈ opcodeTable, r.name = mnemonic i ∧ (encode i).desc &&& r.mask = r.pattern

theorem refusedDestroyed (d : Descriptor) : Statement (.refusedDestroyed d) :=
  ⟨⟨"REFUSED_DESTROYED", 0x0000000000#40, 0x0000000000#40, .destroyed, 0⟩, by simp [opcodeTable, refusalRows], rfl, BitVec.and_zero⟩

theorem refusedReservedBits (d : Descriptor) : Statement (.refusedReservedBits d) :=
  ⟨⟨"REFUSED_RESERVED_BITS", 0x0000000000#40, 0x0000000000#40, .reservedSet, 1⟩, by simp [opcodeTable, refusalRows], rfl, BitVec.and_zero⟩

theorem refusedWidth (dir : Dir) (off : Word) : Statement (.refusedWidth dir off) :=
  ⟨⟨"REFUSED_WIDTH", 0x1800000000#40, 0xD800000000#40, .always, 2⟩, by simp [opcodeTable, refusalRows], rfl, by
    cases dir <;> simp [encode, pack_and_mask, descOff] <;> decide⟩

theorem refusedWindow (dir : Dir) (w : Width) (off : Word) : Statement (.refusedWindow dir w off) :=
  ⟨⟨"REFUSED_WINDOW", 0x0000000000#40, 0xC700000000#40, .outsideWindow, 3⟩, by simp [opcodeTable, refusalRows], rfl, by
    cases dir <;> cases w <;> simp [encode, pack_and_mask, descOff] <;> decide⟩

theorem rdBaud (w : Width) : Statement (.rdBaud w) :=
  ⟨⟨"RD_BAUD", 0x0000000000#40, 0xE7FFFFFFFF#40, .legalWidth, 4⟩, by simp [opcodeTable, readRows], rfl, by cases w <;> decide⟩

theorem rdTx (w : Width) : Statement (.rdTx w) :=
  ⟨⟨"RD_TX", 0x0000000004#40, 0xE7FFFFFFFF#40, .legalWidth, 4⟩, by simp [opcodeTable, readRows], rfl, by cases w <;> decide⟩

theorem rdRx (w : Width) : Statement (.rdRx w) :=
  ⟨⟨"RD_RX", 0x0000000008#40, 0xE7FFFFFFFF#40, .legalWidth, 4⟩, by simp [opcodeTable, readRows], rfl, by cases w <;> decide⟩

theorem rdStatus (w : Width) : Statement (.rdStatus w) :=
  ⟨⟨"RD_STATUS", 0x000000000C#40, 0xE7FFFFFFFF#40, .legalWidth, 4⟩, by simp [opcodeTable, readRows], rfl, by cases w <;> decide⟩

theorem rdDelay (w : Width) : Statement (.rdDelay w) :=
  ⟨⟨"RD_DELAY", 0x0000000010#40, 0xE7FFFFFFFF#40, .legalWidth, 4⟩, by simp [opcodeTable, readRows], rfl, by cases w <;> decide⟩

theorem rdControl (w : Width) : Statement (.rdControl w) :=
  ⟨⟨"RD_CONTROL", 0x0000000014#40, 0xE7FFFFFFFF#40, .legalWidth, 4⟩, by simp [opcodeTable, readRows], rfl, by cases w <;> decide⟩

theorem rdIe (w : Width) : Statement (.rdIe w) :=
  ⟨⟨"RD_IE", 0x0000000018#40, 0xE7FFFFFFFF#40, .legalWidth, 4⟩, by simp [opcodeTable, readRows], rfl, by cases w <;> decide⟩

theorem rdIqc (w : Width) : Statement (.rdIqc w) :=
  ⟨⟨"RD_IQC", 0x000000001C#40, 0xE7FFFFFFFF#40, .legalWidth, 4⟩, by simp [opcodeTable, readRows], rfl, by cases w <;> decide⟩

theorem rdRxt (w : Width) : Statement (.rdRxt w) :=
  ⟨⟨"RD_RXT", 0x0000000020#40, 0xE7FFFFFFFF#40, .legalWidth, 4⟩, by simp [opcodeTable, readRows], rfl, by cases w <;> decide⟩

theorem wrBaud (w : Width) (wdata : BusWord) : Statement (.wrBaud w wdata) :=
  ⟨⟨"WR_BAUD", 0x2000000000#40, 0xE7FFFFFFFF#40, .legalWidth, 4⟩, by simp [opcodeTable, writeRows], rfl, by
    cases w <;> simp only [encode, writeRequest] <;> decide⟩

theorem wrTx (w : Width) (wdata : BusWord) : Statement (.wrTx w wdata) :=
  ⟨⟨"WR_TX", 0x2000000004#40, 0xE7FFFFFFFF#40, .legalWidth, 4⟩, by simp [opcodeTable, writeRows], rfl, by
    cases w <;> simp only [encode, writeRequest] <;> decide⟩

theorem wrRx (w : Width) (wdata : BusWord) : Statement (.wrRx w wdata) :=
  ⟨⟨"WR_RX", 0x2000000008#40, 0xE7FFFFFFFF#40, .legalWidth, 4⟩, by simp [opcodeTable, writeRows], rfl, by
    cases w <;> simp only [encode, writeRequest] <;> decide⟩

theorem wrStatus (w : Width) (wdata : BusWord) : Statement (.wrStatus w wdata) :=
  ⟨⟨"WR_STATUS", 0x200000000C#40, 0xE7FFFFFFFF#40, .legalWidth, 4⟩, by simp [opcodeTable, writeRows], rfl, by
    cases w <;> simp only [encode, writeRequest] <;> decide⟩

theorem wrDelay (w : Width) (wdata : BusWord) : Statement (.wrDelay w wdata) :=
  ⟨⟨"WR_DELAY", 0x2000000010#40, 0xE7FFFFFFFF#40, .legalWidth, 4⟩, by simp [opcodeTable, writeRows], rfl, by
    cases w <;> simp only [encode, writeRequest] <;> decide⟩

theorem wrControl (w : Width) (wdata : BusWord) : Statement (.wrControl w wdata) :=
  ⟨⟨"WR_CONTROL", 0x2000000014#40, 0xE7FFFFFFFF#40, .legalWidth, 4⟩, by simp [opcodeTable, writeRows], rfl, by
    cases w <;> simp only [encode, writeRequest] <;> decide⟩

theorem wrIe (w : Width) (wdata : BusWord) : Statement (.wrIe w wdata) :=
  ⟨⟨"WR_IE", 0x2000000018#40, 0xE7FFFFFFFF#40, .legalWidth, 4⟩, by simp [opcodeTable, writeRows], rfl, by
    cases w <;> simp only [encode, writeRequest] <;> decide⟩

theorem wrIqc (w : Width) (wdata : BusWord) : Statement (.wrIqc w wdata) :=
  ⟨⟨"WR_IQC", 0x200000001C#40, 0xE7FFFFFFFF#40, .legalWidth, 4⟩, by simp [opcodeTable, writeRows], rfl, by
    cases w <;> simp only [encode, writeRequest] <;> decide⟩

theorem wrRxt (w : Width) (wdata : BusWord) : Statement (.wrRxt w wdata) :=
  ⟨⟨"WR_RXT", 0x2000000020#40, 0xE7FFFFFFFF#40, .legalWidth, 4⟩, by simp [opcodeTable, writeRows], rfl, by
    cases w <;> simp only [encode, writeRequest] <;> decide⟩

theorem deliver (b : Byte) : Statement (.deliver b) :=
  ⟨⟨"DELIVER", 0x6000000000#40, 0xFFFFFFFFFF#40, .always, 4⟩, by simp [opcodeTable, otherRows], rfl, by
    simp only [encode, deliverRequest]; decide⟩

theorem canAccept : Statement (.canAccept) :=
  ⟨⟨"CAN_ACCEPT", 0xC000000000#40, 0xFFFFFFFFFF#40, .always, 4⟩, by simp [opcodeTable, otherRows], rfl, by decide⟩

theorem reset : Statement (.reset) :=
  ⟨⟨"RESET", 0x8000000000#40, 0xFFFFFFFFFF#40, .always, 4⟩, by simp [opcodeTable, otherRows], rfl, by decide⟩

theorem destroy : Statement (.destroy) :=
  ⟨⟨"DESTROY", 0xA000000000#40, 0xFFFFFFFFFF#40, .always, 4⟩, by simp [opcodeTable, otherRows], rfl, by decide⟩

theorem rdBadoff (w : Width) (off : Word) : Statement (.rdBadoff w off) :=
  ⟨⟨"RD_BADOFF", 0x0000000000#40, 0xE700000000#40, .badOffset, 5⟩, by simp [opcodeTable, otherRows], rfl, by
    cases w <;> simp [encode, pack_and_mask, descOff, readRequest] <;> decide⟩

theorem wrBadoff (w : Width) (off : Word) (wdata : BusWord) : Statement (.wrBadoff w off wdata) :=
  ⟨⟨"WR_BADOFF", 0x2000000000#40, 0xE700000000#40, .badOffset, 5⟩, by simp [opcodeTable, otherRows], rfl, by
    cases w <;> simp [encode, pack_and_mask, descOff, writeRequest] <;> decide⟩

theorem refusedForm (d : Descriptor) : Statement (.refusedForm d) :=
  ⟨⟨"REFUSED_FORM", 0x0000000000#40, 0x0000000000#40, .always, 6⟩, by simp [opcodeTable, otherRows], rfl, BitVec.and_zero⟩

end Sys2Proof.Laws.EncodedInRow
end

