-- ==== Sys2Proof/Tests/Slice0.lean ====
section
/-! SUPPORT. Tests. Expected results come from spec/: the words of 30_encoding.md R86 and the vectors of
95_test_vectors.md, named in each comment; and the witnesses that the hypotheses of the obligations can be met. -/

namespace Sys2Proof.Tests

open Sys2Proof Sys2Proof.Machine

/-! ### WellFormed refuses an ill-formed term, one for each check (30_encoding.md R85) -/

theorem test_wf_refusedDestroyed_needs_destroyed : WellFormed .operating 0x1000 (.refusedDestroyed 0#40) = false := by decide
theorem test_wf_others_need_a_live_block : WellFormed .destroyed 0x1000 (.rdBaud .four) = false := by decide
theorem test_wf_reset_needs_a_live_block : WellFormed .destroyed 0x1000 .reset = false := by decide
theorem test_wf_reserved_bits_must_be_set : WellFormed .reset 0x1000 (.refusedReservedBits 0x1000000000#40) = false := by decide
theorem test_wf_window_offset_inside : WellFormed .reset 0x1000 (.refusedWindow .read .four 0x0FFF#32) = false := by decide
theorem test_wf_badoff_is_a_slot : WellFormed .reset 0x1000 (.rdBadoff .one 0x20#32) = false := by decide
theorem test_wf_badoff_outside : WellFormed .reset 0x1000 (.rdBadoff .one 0x1000#32) = false := by decide
theorem test_wf_wrBadoff_is_a_slot : WellFormed .reset 0x1000 (.wrBadoff .one 0x04#32 0#64) = false := by decide
theorem test_wf_wrBadoff_outside : WellFormed .reset 0x1000 (.wrBadoff .one 0x1001#32 0#64) = false := by decide
theorem test_wf_form_with_reserved_bits : WellFormed .reset 0x1000 (.refusedForm 0x6100000000#40) = false := by decide
theorem test_wf_form_of_the_cpu_port : WellFormed .reset 0x1000 (.refusedForm 0x1800000000#40) = false := by decide
theorem test_wf_form_that_is_exact : WellFormed .reset 0x1000 (.refusedForm 0x6000000000#40) = false := by decide

/-! ### One word of every constructor, written out from 30_encoding.md R81, R82, R86 (window 0x1000) -/

/-- A request by its descriptor and payload. -/
def dec (d : Descriptor) (payload : BusWord := 0#64) : Instr := decode .operating 0x1000 ⟨d, payload⟩

-- 00 0 10 000, off 00, 08, 0C and so on: `rd.4` is 0x10000000oo.
theorem test_decode_rdBaud : dec 0b00_0_10_000_00000000000000000000000000000000#40 = .rdBaud .four := by decide
theorem test_decode_rdTx : dec 0x1000000004#40 = .rdTx .four := by decide
theorem test_decode_rdRx : dec 0x0000000008#40 = .rdRx .one := by decide
theorem test_decode_rdStatus : dec 0x080000000C#40 = .rdStatus .two := by decide
theorem test_decode_rdDelay : dec 0x0800000010#40 = .rdDelay .two := by decide
theorem test_decode_rdControl : dec 0x1000000014#40 = .rdControl .four := by decide
theorem test_decode_rdIe : dec 0x1000000018#40 = .rdIe .four := by decide
theorem test_decode_rdIqc : dec 0x000000001C#40 = .rdIqc .one := by decide
theorem test_decode_rdRxt : dec 0x1000000020#40 = .rdRxt .four := by decide
-- `wr.4` is 0x30000000oo, `wr.2` 0x28000000oo, `wr.1` 0x20000000oo.
theorem test_decode_wrBaud : dec 0b00_1_01_000_00000000000000000000000000000000#40 0xABCD1234#64 = .wrBaud .two 0xABCD1234#64 := by
  decide
theorem test_decode_wrTx : dec 0x2000000004#40 0x41#64 = .wrTx .one 0x41#64 := by decide
theorem test_decode_wrRx : dec 0x3000000008#40 0x99#64 = .wrRx .four 0x99#64 := by decide
theorem test_decode_wrStatus : dec 0x280000000C#40 0xFFFB#64 = .wrStatus .two 0xFFFB#64 := by decide
theorem test_decode_wrDelay : dec 0x3000000010#40 0xDEADBEEF#64 = .wrDelay .four 0xDEADBEEF#64 := by decide
theorem test_decode_wrControl : dec 0x2000000014#40 0x1FF#64 = .wrControl .one 0x1FF#64 := by decide
theorem test_decode_wrIe : dec 0x3000000018#40 = .wrIe .four 0#64 := by decide
theorem test_decode_wrIqc : dec 0x300000001C#40 0x10#64 = .wrIqc .four 0x10#64 := by decide
theorem test_decode_wrRxt : dec 0x3000000020#40 0x8#64 = .wrRxt .four 0x8#64 := by decide
-- The other ports (R86).
theorem test_decode_deliver : dec 0b01_1_00_000_00000000000000000000000000000000#40 0x41#64 = .deliver 0x41#8 := by decide
theorem test_decode_canAccept : dec 0b11_0_00_000_00000000000000000000000000000000#40 = .canAccept := by decide
theorem test_decode_reset : dec 0b10_0_00_000_00000000000000000000000000000000#40 = .reset := by decide
theorem test_decode_destroy : dec 0b10_1_00_000_00000000000000000000000000000000#40 = .destroy := by decide
-- Bad offsets: A22, B9, A27, and the last byte of the window.
theorem test_decode_rdBadoff : dec 0x0000000001#40 = .rdBadoff .one 0x01#32 := by decide
theorem test_decode_rdBadoff_last : dec 0x1000000FFF#40 = .rdBadoff .four 0x0FFF#32 := by decide
theorem test_decode_wrBadoff : dec 0x300000000D#40 0x4#64 = .wrBadoff .four 0x0D#32 0x4#64 := by decide
-- Refusals: B1 to B7, B10.
theorem test_decode_refusedWidth : dec 0x1800000000#40 = .refusedWidth .read 0x00#32 := by decide
theorem test_decode_refusedReservedBits : dec 0x1100000000#40 = .refusedReservedBits 0x1100000000#40 := by decide
theorem test_decode_refusedWindow : dec 0x1000001000#40 = .refusedWindow .read .four 0x1000#32 := by decide
theorem test_decode_refusedForm_deliver : dec 0x6000000001#40 = .refusedForm 0x6000000001#40 := by decide
theorem test_decode_refusedForm_ports :
    dec 0x4000000000#40 = .refusedForm 0x4000000000#40 ∧ dec 0xE000000000#40 = .refusedForm 0xE000000000#40 ∧
    dec 0x8800000000#40 = .refusedForm 0x8800000000#40 := by decide
theorem test_decode_refusedDestroyed :
    decode .destroyed 0x1000 ⟨0x1100000000#40, 0#64⟩ = .refusedDestroyed 0x1100000000#40 := by decide
-- The order of R85: reserved bits before the width, the width before the window.
theorem test_decode_order :
    dec 0x1900000000#40 = .refusedReservedBits 0x1900000000#40 ∧
    dec 0x3800002000#40 = .refusedWidth .write 0x2000#32 := by decide

/-! ### The notation (R89) and its pseudo-instructions -/

theorem test_notation_alias : assemble (.wrw .four (.reg .status) 0x2#64) = ⟨0x300000000C#40, 0x2#64⟩ := by decide
theorem test_notation_literal : assemble (.rdw .one (.lit 0x21#32)) = ⟨0x0000000021#40, 0#64⟩ := by decide
theorem test_notation_rd_wr :
    assemble (asmRd (.reg .baud)) = ⟨0x1000000000#40, 0#64⟩ ∧
    assemble (asmWr (.reg .rxThreshold) 0x8#64) = ⟨0x3000000020#40, 0x8#64⟩ := by decide
theorem test_notation_putc_getc_stat :
    assemble (asmPutc 0x41#64) = ⟨0x2000000004#40, 0x41#64⟩ ∧ assemble asmGetc = ⟨0x0000000008#40, 0#64⟩ ∧
    assemble asmStat = ⟨0x100000000C#40, 0#64⟩ := by decide
theorem test_notation_other_ports :
    assemble (.rxb 0x41#8) = ⟨0x6000000000#40, 0x41#64⟩ ∧ assemble .canacc = ⟨0xC000000000#40, 0#64⟩ ∧
    assemble .reset = ⟨0x8000000000#40, 0#64⟩ ∧ assemble .destroy = ⟨0xA000000000#40, 0#64⟩ := by decide

/-! ### States -/

/-- S_R with other values of RX, STATUS and the phase. -/
def at_ (rx status : Word) (phase : Phase := .operating) : State :=
  { State.reset with rx := rx, status := status, phase := phase }

/-- The state of vector E1. -/
def e1 : State :=
  { State.reset with
    baud := 0x200#32, rx := 0x41#32, status := 0x4#32, delay := 7#32, control := 1#32, interruptEnable := 0#32,
    iqCycles := 3#32, rxThreshold := 9#32, phase := .operating }

/-- A pending byte 0x41. -/
def pending : State := at_ 0x41#32 0x4#32

/-- Nothing pending, after a first access. -/
def idle : State := at_ 0x00#32 0x0#32

/-- A destroyed block. -/
def dead : State := at_ 0x00#32 0x0#32 .destroyed

/-- The state after one instruction; the state itself where there is none. -/
def after (i : Instr) (s : State) : State :=
  match exec i s with
  | .next t => t
  | .fault _ => s
  | .refused _ => s

/-- The refusal of an instruction. -/
def refusalOf (i : Instr) (s : State) : Option Refusal :=
  match exec i s with
  | .next _ => none
  | .fault _ => none
  | .refused r => some r

/-! ### One instruction on a small state: 95_test_vectors.md -/

-- A2 and V1 row 3: narrow read of BAUD.
theorem test_rdBaud_narrow : (after (.rdBaud .one) { e1 with baud := 0x12345678#32 }).responses = [.data 0x78#32] := by decide
theorem test_rdBaud : (after (.rdBaud .four) e1).responses = [.data 0x200#32] := by decide
-- A4, A7: the low bits of the width, the rest zero; a 64-bit bus value.
theorem test_wrBaud_narrow : (after (.wrBaud .two 0xABCD1234#64) e1).baud = 0x1234#32 := by decide
theorem test_wrBaud_wide_bus : (after (.wrBaud .four 0x1FFFFFFFF#64) e1).baud = 0xFFFFFFFF#32 := by decide
-- A8, A9.
theorem test_rdTx : (after (.rdTx .four) idle).diags = [⟨.readOfWriteOnly, .read, 0x04#32, .four⟩] := by decide
theorem test_rdTx_keeps_status : (after (.rdTx .one) (at_ 0#32 0x2#32)).status = 0x2#32 := by decide
-- A10.
theorem test_wrRx_diag : (after (.wrRx .four 0x99#64) pending).diags = [⟨.writeOfReadOnly, .write, 0x08#32, .four⟩] := by decide
theorem test_wrRx_keeps_the_byte :
    (after (.wrRx .four 0x99#64) pending).rx = 0x41#32 ∧ irq (after (.wrRx .four 0x99#64) pending) = true := by decide
-- V1 row 5, A14.
theorem test_rdStatus : (after (.rdStatus .four) pending).responses = [.data 0x4#32] := by decide
theorem test_rdStatus_clears_nothing : (after (.rdStatus .one) pending).status = 0x4#32 := by decide
theorem test_wrStatus_byte : (after (.wrStatus .one 0x1F4#64) idle).status = 0xF4#32 := by decide
theorem test_wrStatus_lowers_the_level : irq (after (.wrStatus .two 0xFFFB#64) pending) = false := by decide
-- A15, A16, A17, A18, A19.
theorem test_rdDelay : (after (.rdDelay .two) { e1 with delay := 0xDEADBEEF#32 }).responses = [.data 0xBEEF#32] := by decide
theorem test_wrDelay : (after (.wrDelay .four 0xDEADBEEF#64) e1).delay = 0xDEADBEEF#32 := by decide
theorem test_rdControl : (after (.rdControl .four) { e1 with control := 0x3#32 }).responses = [.data 0x3#32] := by decide
theorem test_wrControl : (after (.wrControl .one 0x1FF#64) e1).control = 0xFF#32 := by decide
theorem test_rdIe : (after (.rdIe .four) e1).responses = [.data 0x0#32] := by decide
theorem test_wrIe_masks_nothing :
    (after (.wrIe .four 0x0#64) pending).interruptEnable = 0x0#32 ∧ irq (after (.wrIe .four 0x0#64) pending) = true := by decide
-- A20, A21.
theorem test_rdIqc : (after (.rdIqc .one) { e1 with iqCycles := 0x10#32 }).responses = [.data 0x10#32] := by decide
theorem test_wrIqc : (after (.wrIqc .four 0x10#64) e1).iqCycles = 0x10#32 := by decide
theorem test_rdRxt : (after (.rdRxt .four) { e1 with rxThreshold := 0x8#32 }).responses = [.data 0x8#32] := by decide
theorem test_wrRxt :
    (after (.wrRxt .four 0x8#64) idle).rxThreshold = 0x8#32 ∧ canAccept (after (.wrRxt .four 0x8#64) idle) = true := by decide
-- A22, A23, A26, A27.
theorem test_rdBadoff : (after (.rdBadoff .one 0x01#32) idle).diags = [⟨.badOffset, .read, 0x01#32, .one⟩] := by decide
theorem test_rdBadoff_is_no_rx_read :
    (after (.rdBadoff .four 0x0A#32) pending).status = 0x4#32 ∧
    (after (.rdBadoff .four 0x0A#32) pending).responses = [.data 0x0#32] := by decide
theorem test_wrBadoff_sends_nothing : (after (.wrBadoff .one 0x05#32 0x41#64) idle).sink = [] := by decide
theorem test_wrBadoff : (after (.wrBadoff .four 0x0D#32 0x4#64) idle).status = 0x0#32 := by decide
-- C1, C3, C10.
theorem test_canAccept : (after .canAccept (at_ 0#32 0x8#32)).responses = [.accept true] := by decide
theorem test_canAccept_keeps_the_phase : (after .canAccept State.reset).phase = .reset := by decide
-- C12, C4.
theorem test_deliver : (after (.deliver 0x41#8) (at_ 0#32 0x2#32)).status = 0x6#32 := by decide
theorem test_deliver_violation :
    (after (.deliver 0x42#8) pending).faultRx = true ∧ (after (.deliver 0x42#8) pending).rx = 0x41#32 := by decide
-- C9, C8.
theorem test_rdRx : (after (.rdRx .four) (at_ 0x41#32 0xF#32)).status = 0xB#32 := by decide
theorem test_rdRx_answers_and_notifies :
    (after (.rdRx .one) pending).responses = [.data 0x41#32] ∧ (after (.rdRx .two) State.reset).notifies = 1 := by decide
-- D3, D4.
theorem test_wrTx : (after (.wrTx .four 0x1234#64) (at_ 0#32 0xF#32)).sink = [0x34#8] := by decide
theorem test_wrTx_status : (after (.wrTx .two 0x0#64) (at_ 0#32 0xF#32)).status = 0xD#32 := by decide
-- E1, E3.
theorem test_reset : (after .reset e1).rx = 0#32 ∧ (after .reset e1).iqCycles = 0#32 ∧ irq (after .reset e1) = false := by decide
theorem test_reset_keeps_the_fault : (after .reset { e1 with faultRx := true }).faultRx = true := by decide
-- E5, E6.
theorem test_destroy : (after .destroy State.reset).phase = .destroyed := by decide
theorem test_reset_after_destroy : refusalOf .reset dead = some .destroyed := by decide
-- B1 to B4, B10.
theorem test_refusedDestroyed : refusalOf (.refusedDestroyed 0#40) dead = some .destroyed := by decide
theorem test_refusedReservedBits : refusalOf (.refusedReservedBits 0x1100000000#40) idle = some .reservedBits := by decide
theorem test_refusedWidth : refusalOf (.refusedWidth .read 0#32) idle = some .badWidth := by decide
theorem test_refusedWindow : refusalOf (.refusedWindow .read .four 0x1000#32) idle = some .outsideWindow := by decide
theorem test_refusedForm : refusalOf (.refusedForm 0x6000000001#40) idle = some .badForm := by decide

/-! ### One step of the machine -/

/-- What a step leaves, the state itself where it answers none. -/
def stepped (s : State) : State :=
  match step s with
  | .next t => t
  | .fault _ => s
  | .refused _ => s

/-- The first step of V1 from S_R: `wr.4 BAUD, 0x200`, numbered as the table numbers bits. -/
theorem test_step_from_reset :
    (stepped (State.reset.withFetchWord 104 (0x3000000000 + 0x200 * 2 ^ 40))).baud = 0x200#32 := by decide

/-- E4's phase step, with a read of TX. -/
theorem test_step_moves_the_phase : (stepped (State.reset.withFetchWord 40 0x1000000004)).phase = .operating := by decide

/-- B1: the step goes on after a refusal, and the name is kept. -/
theorem test_step_records_a_refusal :
    (stepped (State.reset.withFetchWord 40 0x1800000000)).refusals = [.badWidth] ∧
    (stepped (State.reset.withFetchWord 40 0x1800000000)).phase = .reset := by decide

/-- 60_exceptions.md R213: nothing is done outside a transaction. -/
theorem test_step_with_nothing_presented : (stepped pending).status = 0x4#32 := by decide

/-- R84: a 64-bit bus sees the read data zero-extended. -/
theorem test_onBus : onBus 64 0xFFFFFFFF#32 = 0x00000000FFFFFFFF#64 := by decide

/-- R180: the line carries the level in phase Reset and in phase Operating. R185: after DESTROY nothing is driven. -/
theorem test_irqLine :
    irqLine pending = some true ∧ irqLine idle = some false ∧ irqLine State.reset = some false ∧
    irqLine (at_ 0x41#32 0x4#32 .reset) = some true ∧ irqLine dead = none := by decide

theorem test_decodeTableWord : decodeTableWord 40 0xC000000000 = some .canAccept := by decide

/-! ### Witnesses: for each obligation with hypotheses, values that meet all of them -/

-- Decoding and encoding: the smallest window, the offsets next to its end.

theorem witness_StepRunsTheDecodedTransaction :
    ({ idle with inbox := [assemble asmStat, assemble .reset] } : State).inbox = assemble asmStat :: [assemble .reset] ∧
    idle.inbox = [] := by decide

theorem witness_DecodeOfEncodeIsTheInstruction :
    0x24 ≤ 0x24 ∧ WellFormed .reset 0x24 (.rdBadoff .one 0x23#32) = true ∧
    WellFormed .reset 0x24 (.refusedWindow .read .four 0x24#32) = true ∧
    WellFormed .destroyed 0x24 (.refusedDestroyed 0x1100000000#40) = true ∧
    WellFormed .operating 0x24 (.refusedForm 0x8800000000#40) = true ∧
    WellFormed .operating 0x24 (.wrRxt .two 0x8#64) = true := by decide

theorem witness_DecoderAnswersTheFirstMatchingRow :
    0x24 ≤ 0x24 ∧
    (opcodeTable.find? fun r => rowMatches r .reset 0x24 0x0000000023#40).map OpcodeRow.name = some "RD_BADOFF" ∧
    (opcodeTable.find? fun r => rowMatches r .reset 0x24 0x0000000024#40).map OpcodeRow.name = some "REFUSED_WINDOW" ∧
    (opcodeTable.find? fun r => rowMatches r .reset 0x24 0x2000000020#40).map OpcodeRow.name = some "WR_RXT" := by decide

/-- The first byte of the window is inside, the first past its 0x24 bytes' slack is not. -/
theorem witness_BusAccessesReachTheWindowOnly :
    (Config.base ≤ Config.base ∧ Config.base < Config.base + Config.regionSize ∧ Config.base - Config.base < 2 ^ 32) ∧
    (Config.base ≤ Config.base + 0x23 ∧ Config.base + 0x23 < Config.base + Config.regionSize ∧
      Config.base + 0x23 - Config.base < 2 ^ 32) ∧
    ¬ (Config.base ≤ Config.base + Config.regionSize ∧
      Config.base + Config.regionSize < Config.base + Config.regionSize ∧
      Config.base + Config.regionSize - Config.base < 2 ^ 32) := by
  have := Config.regionSize_ge
  omega

-- Registers: both live phases; every statement over `Live s` alone has these.

theorem witness_Live : Live State.reset ∧ Live idle ∧ Live pending ∧ Live e1 := by decide

theorem witness_ReadOfABadOffsetIsInvalid :
    (0x01#32).toNat < Config.regionSize ∧ 0x01#32 ∉ validOffsets ∧
    (0x23#32).toNat < Config.regionSize ∧ 0x23#32 ∉ validOffsets ∧ Live idle := by
  have := Config.regionSize_ge
  exact ⟨by simp; omega, by decide, by simp; omega, by decide, by decide⟩

theorem witness_WriteOfABadOffsetIsInvalid :
    (0x0D#32).toNat < Config.regionSize ∧ 0x0D#32 ∉ validOffsets ∧ Live State.reset := by
  have := Config.regionSize_ge
  exact ⟨by simp; omega, by decide, by decide⟩

theorem witness_StatusWriteSetsEveryBit_of_the_current_value : Live pending ∧ narrow 0x4#64 .four = pending.status := by decide

/-- An answer of `exec`, for every statement whose only hypothesis is one: an invalid access, an accepted delivery, a
violation, a RESET. -/
theorem witness_exec_next :
    exec (.rdTx .one) idle = .next (after (.rdTx .one) idle) ∧ exec (.deliver 0x41#8) idle = .next (after (.deliver 0x41#8) idle) ∧
    exec (.deliver 0x42#8) pending = .next (after (.deliver 0x42#8) pending) ∧ exec .reset e1 = .next (after .reset e1) :=
  ⟨rfl, rfl, rfl, rfl⟩

-- Receive path.

theorem witness_DeliveryIsAcceptedWhenTheBitIsClear :
    Live State.reset ∧ canAccept State.reset = true ∧ Live idle ∧ canAccept idle = true := by decide

theorem witness_DeliveryWhileFullOnlySetsTheFault : Live pending ∧ canAccept pending = false := by decide

/-- Deliver, read, deliver: C3 and V3. -/
def traffic : List Request := [assemble (.rxb 0x41#8), assemble (asmRd (.reg .rx)), assemble (.rxb 0x42#8)]

theorem witness_AnObedientSourceNeverFaults : SourceObeys traffic State.reset ∧ (serveAll traffic State.reset).faultRx = false :=
  ⟨⟨fun _ => by decide, fun h => absurd h (by decide), fun _ => by decide, trivial⟩, by decide⟩

/-- After the delivery, an RX read: no STATUS write, and the predicate is true again. -/
theorem witness_FlowControlHoldsWithoutStatusWrites :
    Live idle ∧ canAccept idle = true ∧ NoStatusWrite [assemble asmGetc] (after (.deliver 0x41#8) idle) ∧
    canAccept (serveAll [assemble asmGetc] (after (.deliver 0x41#8) idle)) = true :=
  ⟨by decide, by decide, by unfold NoStatusWrite; decide, by decide⟩

/-- Between two RX reads, a BAUD write and a query. -/
def between : List Request := [assemble (asmWr (.reg .baud) 0x200#64), assemble .canacc]

theorem witness_RxReadClearIsOneShot :
    exec (.rdRx .four) pending = .next (after (.rdRx .four) pending) ∧
    NoDeliver between (after (.rdRx .four) pending) ∧ NoReset between (after (.rdRx .four) pending) ∧
    NoStatusWrite between (after (.rdRx .four) pending) ∧ Live (serveAll between (after (.rdRx .four) pending)) :=
  ⟨rfl, by unfold NoDeliver; decide, by unfold NoReset; decide, by unfold NoStatusWrite; decide, by decide⟩

theorem witness_NoAcceptedByteIsLostOrReordered :
    NoStatusWrite traffic State.reset ∧ NoReset traffic State.reset ∧ acceptedBytes traffic State.reset = [0x41#8, 0x42#8] :=
  ⟨by unfold NoStatusWrite; decide, by unfold NoReset; decide, by decide⟩

/-- P3 rows 4 and 10. -/
theorem witness_ClearingTheBitByAStatusWriteLosesTheByte :
    Live pending ∧ irq pending = true ∧ (narrow 0x2#64 .four).getLsbD 2 = false := by decide

theorem witness_SettingTheBitByAStatusWriteShowsAStaleByte :
    Live (at_ 0x43#32 0x0#32) ∧ irq (at_ 0x43#32 0x0#32) = false ∧ (narrow 0x4#64 .four).getLsbD 2 = true := by decide

-- Interrupt: V3's trace 0, 1, 0, 1 rises twice; a RESET lowers the level.

theorem witness_NoDoubleInterruptWithoutStatusWrites :
    (NoStatusWrite traffic State.reset ∧ rises traffic State.reset = 2) ∧
    (NoStatusWrite [assemble .reset] pending ∧ irq pending = true ∧ irq (serveAll [assemble .reset] pending) = false) :=
  ⟨⟨by unfold NoStatusWrite; decide, by decide⟩, by unfold NoStatusWrite; decide, by decide, by decide⟩

-- Lifecycle and the record.

theorem witness_TheLineIsLowAtResetAndReleasedAtDestroy : dead.phase = .destroyed ∧ Live State.reset ∧ Live pending := by decide

theorem witness_ADestroyedInstanceStaysAsItIs : dead.phase = .destroyed := by decide

theorem witness_ThePhaseMovesAsStatedAndIsUnobservable :
    exec (.rdBaud .one) State.reset = .next (after (.rdBaud .one) State.reset) ∧
    (∃ t, exec (.rdRx .two) { e1 with phase := .reset } = .next t) ∧
    exec (instrOf ⟨0x1800000000#40, 0#64⟩ State.reset) State.reset = .refused .badWidth ∧
    exec (.refusedForm 0x8800000000#40) { e1 with phase := .reset } = .refused .badForm :=
  ⟨rfl, ⟨_, rfl⟩, rfl, rfl⟩

theorem witness_RefusalsAreRecordedForTheWholeRun :
    exec (instrOf ⟨0x1100000000#40, 0#64⟩ idle) idle = .refused .reservedBits ∧
    exec (instrOf (assemble .canacc) idle) idle = .next (after .canAccept idle) ∧
    step ({ idle with inbox := [⟨0x1800000000#40, 0#64⟩], refusals := [.badForm] } : State) =
      .next { idle with refusals := [.badForm, .badWidth] } :=
  ⟨rfl, rfl, rfl⟩

theorem witness_TheFaultFlagIsSticky :
    (∃ t, step { pending with faultRx := true, inbox := [assemble .reset] } = .next t) ∧
    ({ pending with faultRx := true, inbox := [assemble .reset] } : State).faultRx = true := ⟨⟨_, rfl⟩, rfl⟩

-- The whole block.

theorem witness_RegistersHaveTheirWritersOnly :
    (∃ t, exec (.wrTx .four 0x42#64) pending = .next t) ∧ mayWrite (.wrTx .four 0x42#64) .rx = false ∧
    (∃ t, exec (.deliver 0x42#8) pending = .next t) ∧ mayWrite (.deliver 0x42#8) .baud = false :=
  ⟨⟨_, rfl⟩, rfl, ⟨_, rfl⟩, rfl⟩

/-- Bit 3 under a delivery; bit 31 set by a STATUS write; bit 1 cleared by a TX write. -/
theorem witness_StatusBitsHaveTheirWritersOnly :
    (∃ t, exec (.deliver 0x42#8) idle = .next t) ∧ mayChangeStatusBit (.deliver 0x42#8) 3 = false ∧
    idle.status.getLsbD 31 = false ∧ (after (.wrStatus .four 0x80000000#64) idle).status.getLsbD 31 = true ∧
    (∃ t, exec (.wrTx .one 0x42#64) idle = .next t) :=
  ⟨⟨_, rfl⟩, rfl, rfl, rfl, ⟨_, rfl⟩⟩

/-- Two states of one block with different outputs. -/
theorem witness_NoOtherStateExists :
    SameBlock pending { pending with sink := [0x41#8], notifies := 3, refusals := [.badWidth] } ∧
    exec (.refusedWidth .read 0#32) pending = .refused .badWidth ∧ (∃ t, exec (.rdRx .one) pending = .next t) :=
  ⟨⟨fun r => by cases r <;> rfl, rfl, rfl⟩, rfl, ⟨_, rfl⟩⟩

/-- Two states with different passthrough registers. -/
theorem witness_PassthroughRegistersAffectNothing :
    SameButStores e1 { e1 with baud := 0#32, control := 0#32, interruptEnable := 0xFFFFFFFF#32, rxThreshold := 0#32 } ∧
    exec .reset dead = .refused .destroyed ∧ (∃ t, exec (.deliver 0x7E#8) e1 = .next t) ∧
    (∃ t, exec (.rdDelay .two) e1 = .next t) ∧
    (∀ r, passthroughRead (.rdDelay .two) = some r →
      ({ e1 with baud := 0#32, control := 0#32, interruptEnable := 0xFFFFFFFF#32, rxThreshold := 0#32 } : State).reg r =
        e1.reg r) ∧
    (∃ t, exec (.rdStatus .one) e1 = .next t) ∧ passthroughRead (.rdStatus .one) = none :=
  ⟨⟨rfl, rfl, rfl, rfl, rfl, rfl, rfl⟩, rfl, ⟨_, rfl⟩, ⟨_, rfl⟩, by intro r h; cases h; rfl, ⟨_, rfl⟩, rfl⟩

/-- An operating state with a diagnostic on record, and the step of an RX read from it. -/
theorem witness_EveryStepKeepsTheInvariant :
    Inv { pending with diags := [⟨.readOfWriteOnly, .read, 0x04#32, .two⟩, ⟨.badOffset, .write, 0x23#32, .one⟩] } ∧
    ∃ t, step { pending with
      diags := [⟨.readOfWriteOnly, .read, 0x04#32, .two⟩, ⟨.badOffset, .write, 0x23#32, .one⟩],
      inbox := [assemble asmGetc] } = .next t := by
  have hr := Config.regionSize_ge
  refine ⟨⟨by decide, ?_, by intro h; cases h⟩, _, rfl⟩
  intro d hd
  simp at hd
  rcases hd with rfl | rfl
  · exact ⟨rfl, rfl⟩
  · exact ⟨by decide, by simp; omega⟩

end Sys2Proof.Tests
end

section
/-! SUPPORT. The six registers that only store (00_scope.md R5): every update acts alike on two states that differ in them
alone, so every instruction does, and no answer but the read of one of them depends on them. -/

namespace Sys2Proof.Machine

/-! ### Every named update keeps agreement outside the six registers -/

section
variable {s u : State} (h : SameButStores s u)
include h

theorem SameButStores.phase_eq : u.phase = s.phase := by
  obtain ⟨-, -, hphase, -⟩ := h
  exact hphase

theorem SameButStores.canAccept_eq : canAccept u = canAccept s := by
  obtain ⟨-, hstatus, -⟩ := h
  rw [canAccept_eq_not_irq, canAccept_eq_not_irq, irq_congr hstatus]

/-- What a read answers plays no part in the agreement. -/
theorem SameButStores.respond (a b : Response) : SameButStores (s.respond a) (u.respond b) := h

theorem SameButStores.setReg (r : Reg) (v : Word) : SameButStores (s.setReg r v) (u.setReg r v) := by
  obtain ⟨hrx, hstatus, hrest⟩ := h
  simp [SameButStores, hrx, hstatus, hrest]

theorem SameButStores.operate : SameButStores s.operate u.operate := by
  obtain ⟨hrx, hstatus, hphase, hrest⟩ := h
  exact ⟨hrx, hstatus, congrArg phaseAfterAccess hphase, hrest⟩

theorem SameButStores.emitDiag (d : Diag) : SameButStores (s.emitDiag d) (u.emitDiag d) := by
  obtain ⟨hrx, hstatus, hphase, hfault, hsink, hnotifies, hdiags⟩ := h
  exact ⟨hrx, hstatus, hphase, hfault, hsink, hnotifies, congrArg (· ++ [d]) hdiags⟩

theorem SameButStores.notifySource : SameButStores s.notifySource u.notifySource := by
  obtain ⟨hrx, hstatus, hphase, hfault, hsink, hnotifies, hdiags⟩ := h
  exact ⟨hrx, hstatus, hphase, hfault, hsink, congrArg (· + 1) hnotifies, hdiags⟩

theorem SameButStores.handToSink (b : Byte) : SameButStores (s.handToSink b) (u.handToSink b) := by
  obtain ⟨hrx, hstatus, hphase, hfault, hsink, hrest⟩ := h
  exact ⟨hrx, hstatus, hphase, hfault, congrArg (· ++ [b]) hsink, hrest⟩

theorem SameButStores.raiseRxFault : SameButStores s.raiseRxFault u.raiseRxFault := by
  obtain ⟨hrx, hstatus, hphase, -, hrest⟩ := h
  exact ⟨hrx, hstatus, hphase, rfl, hrest⟩

theorem SameButStores.release : SameButStores s.release u.release := by
  obtain ⟨hrx, hstatus, -, hrest⟩ := h
  exact ⟨hrx, hstatus, rfl, hrest⟩

theorem SameButStores.applyReset : SameButStores s.applyReset u.applyReset := by
  obtain ⟨-, -, -, hrest⟩ := h
  exact ⟨rfl, rfl, rfl, hrest⟩

theorem SameButStores.receiveByte (b : Byte) : SameButStores (s.receiveByte b) (u.receiveByte b) := by
  obtain ⟨-, hstatus, -⟩ := id h
  unfold State.receiveByte
  rw [hstatus]
  exact (h.setReg ..).setReg ..

theorem SameButStores.consumeByte : SameButStores s.consumeByte u.consumeByte := by
  obtain ⟨-, hstatus, -⟩ := id h
  unfold State.consumeByte
  rw [hstatus]
  exact (h.setReg ..).notifySource

end

/-! ### Every instruction keeps it -/

/-- Each effect is a chain of the updates above, the one test in it being the backpressure predicate. -/
theorem SameButStores.effect {s u : State} (h : SameButStores s u) (i : Instr) :
    SameButStores (effect i s) (effect i u) := by
  cases i
  case refusedDestroyed | refusedReservedBits | refusedWidth | refusedWindow | refusedForm => exact h
  case rdBaud | rdStatus | rdDelay | rdControl | rdIe | rdIqc | rdRxt => exact (h.respond ..).operate
  case wrBaud | wrStatus | wrDelay | wrControl | wrIe | wrIqc | wrRxt => exact (h.setReg ..).operate
  case rdTx | rdBadoff => exact ((h.emitDiag _).respond ..).operate
  case wrRx | wrBadoff => exact (h.emitDiag _).operate
  case rdRx => exact (h.consumeByte.respond ..).operate
  case wrTx =>
    obtain ⟨-, hstatus, -⟩ := id h
    simp only [Machine.effect, hstatus]
    exact ((h.handToSink _).setReg ..).operate
  case deliver b =>
    simp only [Machine.effect, h.canAccept_eq]
    split
    · exact (h.receiveByte b).operate
    · exact h.raiseRxFault.operate
  case canAccept => exact h.respond ..
  case reset => exact h.applyReset
  case destroy => exact h.release

/-! ### What an instruction answers -/

/-- The answers an accepted instruction appends: one to a CPU read, one to a query, none otherwise (30_encoding.md R84). -/
def answers (i : Instr) (s : State) : List Response :=
  match i with
  | .rdBaud w => [.data (narrow s.baud w)]
  | .rdRx w => [.data (narrow s.rx w)]
  | .rdStatus w => [.data (narrow s.status w)]
  | .rdDelay w => [.data (narrow s.delay w)]
  | .rdControl w => [.data (narrow s.control w)]
  | .rdIe w => [.data (narrow s.interruptEnable w)]
  | .rdIqc w => [.data (narrow s.iqCycles w)]
  | .rdRxt w => [.data (narrow s.rxThreshold w)]
  | .rdTx _ => [.data 0x00000000#32]
  | .rdBadoff _ _ => [.data 0x00000000#32]
  | .canAccept => [.accept (canAccept s)]
  | _ => []

theorem effect_responses (i : Instr) (s : State) : (effect i s).responses = s.responses ++ answers i s := by
  cases i
  case deliver => simp only [effect]; split <;> simp [answers]
  all_goals simp [effect, answers]

/-- An answer is a function of RX, STATUS, and the one storing register whose own read the instruction is. -/
theorem SameButStores.answers_eq {s u : State} (h : SameButStores s u) (i : Instr)
    (hreg : ∀ r, passthroughRead i = some r → u.reg r = s.reg r) : answers i u = answers i s := by
  obtain ⟨hrx, hstatus, -⟩ := id h
  cases i
  case rdBaud | rdDelay | rdControl | rdIe | rdIqc | rdRxt =>
    simpa [answers] using congrArg (narrow · _) (hreg _ rfl)
  case rdRx => simp only [answers, hrx]
  case rdStatus => simp only [answers, hstatus]
  case canAccept => simp only [answers, h.canAccept_eq]
  all_goals rfl

theorem SameButStores.sameAnswers_effect {s u : State} (h : SameButStores s u) (i : Instr)
    (hreg : ∀ r, passthroughRead i = some r → u.reg r = s.reg r) :
    SameAnswers s (Machine.effect i s) u (Machine.effect i u) :=
  ⟨answers i s, effect_responses i s, by rw [effect_responses, h.answers_eq i hreg]⟩

/-! ### Whether and how an instruction is refused depends on the phase alone -/

theorem whenLive_congr {s u : State} (h : u.phase = s.phase) (k : Host.Outcome State Fault Refusal) :
    whenLive u k = whenLive s k := by
  unfold whenLive; rw [h]

theorem exec_refusedRow_congr {i : Instr} {s u : State} (hr : isRefusedRow i = true) (h : u.phase = s.phase) :
    exec i u = exec i s :=
  match i, hr with
  | .refusedDestroyed _, _ => whenLive_congr h _
  | .refusedReservedBits _, _ => whenLive_congr h _
  | .refusedWidth _ _, _ => whenLive_congr h _
  | .refusedWindow _ _ _, _ => whenLive_congr h _
  | .refusedForm _, _ => whenLive_congr h _

/-- The inversion of a refusal: the instance is destroyed, or the row is a refused one. -/
theorem exec_refused {i : Instr} {s : State} {r : Refusal} (h : exec i s = .refused r) :
    s.phase = .destroyed ∨ isRefusedRow i = true := by
  by_contra hnot
  obtain ⟨hl, hr⟩ := not_or.mp hnot
  rw [exec_of_live hl (Bool.eq_false_iff.mpr hr)] at h
  cases h

theorem exec_refused_congr {i : Instr} {s u : State} {r : Refusal} (hphase : u.phase = s.phase)
    (h : exec i s = .refused r) : exec i u = .refused r := by
  rcases exec_refused h with hd | hr
  · rw [exec_of_destroyed i hd] at h
    rw [exec_of_destroyed i (hphase.trans hd), h]
  · rw [exec_refusedRow_congr hr hphase, h]

/-- Settles O49: both states go to the instruction's `effect`, which keeps the agreement, or both are refused. -/
theorem passthroughRegistersAffectNothing : Obligations.PassthroughRegistersAffectNothing := by
  intro i s u h
  refine ⟨fun t ht => ?_, fun r => exec_refused_congr h.phase_eq⟩
  obtain ⟨hl, hr, rfl⟩ := exec_next ht
  have hlu : Live u := by rwa [Live, h.phase_eq]
  exact ⟨effect i u, exec_of_live hlu hr, h.effect i, h.sameAnswers_effect i⟩

end Sys2Proof.Machine
end

section
/-! SUPPORT. RESET: how its word decodes and what it leaves (44_lifecycle.md R191). -/

namespace Sys2Proof.Machine

/-- A live instance decodes a descriptor of another port than the CPU's, reserved bits zero, by its exact form (30_encoding.md
R85). -/
theorem instrOf_of_otherPort {d : Descriptor} {s : State} (hl : Live s) (hrsv : descRsv d = 0#3)
    (hport : descPort d ≠ 0b00#2) (payload : BusWord) : instrOf ⟨d, payload⟩ s = decodeOther ⟨d, payload⟩ := by
  rw [instrOf, decode, if_neg hl, if_neg (not_not_intro hrsv), if_neg hport]

@[simp] theorem decodeOther_resetDesc (payload : BusWord) : decodeOther ⟨resetDesc, payload⟩ = .reset := rfl

theorem instrOf_resetDesc {s : State} (hl : Live s) (payload : BusWord) : instrOf ⟨resetDesc, payload⟩ s = .reset := by
  rw [instrOf_of_otherPort hl (by decide) (by decide) payload, decodeOther_resetDesc]

theorem sameOutputs_applyReset (s : State) : SameOutputs s s.applyReset := ⟨rfl, rfl, rfl, rfl⟩

theorem sameRecord_applyReset (s : State) : SameRecord s s.applyReset := ⟨rfl, rfl, rfl⟩

/-- STATUS is zero after a reset, so its bit 2 is. -/
@[simp] theorem irq_applyReset (s : State) : irq s.applyReset = false := by
  simp [irq, resetValue]

/-- Settles O35: RESET goes to `applyReset`, whose registers are the reset values. -/
theorem resetGivesTheDocumentedDefaults : Obligations.ResetGivesTheDocumentedDefaults := by
  intro s hl
  have hlive : Live s.applyReset := by simp [Live]
  refine ⟨instrOf_resetDesc hl, s.applyReset, exec_of_live hl rfl, rfl, rfl, rfl, rfl, rfl, rfl, rfl, rfl, rfl,
    sameOutputs_applyReset s, sameRecord_applyReset s, ?_, ?_⟩
  · rw [irqLine_of_live hlive, irq_applyReset]
  · rw [canAccept_eq_not_irq, irq_applyReset, Bool.not_false]

end Sys2Proof.Machine
end

section
/-! SUPPORT. STATUS: what each instruction leaves in it, and so which bits it can change (10_state.md R25 to R29). -/

namespace Sys2Proof.Machine

/-- STATUS after an accepted instruction: five instructions touch it, a DELIVER only when it is accepted. -/
def statusAfter (i : Instr) (s : State) : Word :=
  match i with
  | .wrStatus w wdata => narrow wdata w
  | .reset => resetValue .status
  | .deliver _ => if canAccept s then statusAfterDelivery s.status else s.status
  | .rdRx _ => statusAfterRxRead s.status
  | .wrTx _ _ => statusAfterTxWrite s.status
  | _ => s.status

theorem effect_status (i : Instr) (s : State) : (effect i s).status = statusAfter i s := by
  cases i
  case deliver => simp only [effect, statusAfter]; split <;> rfl
  all_goals rfl

/-- The two paths change the one bit each of them manages. -/
theorem getLsbD_statusAfter_of_mayNotChange {i : Instr} {n : Nat} (h : mayChangeStatusBit i n = false) (s : State) :
    (statusAfter i s).getLsbD n = s.status.getLsbD n := by
  cases i
  case wrStatus | reset => cases h
  case deliver =>
    have hn : n ≠ 2 := of_decide_eq_false h
    simp only [statusAfter]
    split
    · simp [getLsbD_statusAfterDelivery, hn]
    · rfl
  case rdRx =>
    have hn : n ≠ 2 := of_decide_eq_false h
    simp [statusAfter, getLsbD_statusAfterRxRead, hn]
  case wrTx =>
    have hn : n ≠ 1 := of_decide_eq_false h
    simp [statusAfter, getLsbD_statusAfterTxWrite, hn]
  all_goals rfl

/-- Of the instructions that may change a bit other than RX_NOT_EMPTY, only WR_STATUS does not clear it (R26, R27). -/
theorem getLsbD_statusAfter_of_mayChange {i : Instr} {n : Nat} (h : mayChangeStatusBit i n = true) (hn : n ≠ 2)
    (hw : isStatusWrite i = false) (s : State) : (statusAfter i s).getLsbD n = false := by
  cases i
  case wrStatus => cases hw
  case reset => exact BitVec.getLsbD_zero
  case deliver | rdRx => exact absurd (of_decide_eq_true h) hn
  case wrTx => rw [statusAfter, getLsbD_statusAfterTxWrite, show n = 1 from of_decide_eq_true h]; simp
  all_goals cases h

theorem isStatusWrite_of_bit_rises {i : Instr} {n : Nat} {s : State} (hn : n ≠ 2) (h0 : s.status.getLsbD n = false)
    (h1 : (statusAfter i s).getLsbD n = true) : isStatusWrite i = true := by
  by_contra hw
  cases hc : mayChangeStatusBit i n
  · rw [getLsbD_statusAfter_of_mayNotChange hc, h0] at h1
    cases h1
  · rw [getLsbD_statusAfter_of_mayChange hc hn (Bool.eq_false_iff.mpr hw)] at h1
    cases h1

/-- Settles O47: an accepted instruction leaves `statusAfter` in STATUS, which is compared with the old value bit by bit. -/
theorem statusBitsHaveTheirWritersOnly : Obligations.StatusBitsHaveTheirWritersOnly := by
  intro i s t n h
  obtain ⟨-, -, rfl⟩ := exec_next h
  rw [effect_status]
  refine ⟨fun hkeep => getLsbD_statusAfter_of_mayNotChange hkeep s, isStatusWrite_of_bit_rises, ?_⟩
  rintro w wdata rfl
  exact statusAfterTxWrite_one s.status

end Sys2Proof.Machine
end

section
/-! SUPPORT. Writing one register twice: a stored value replaces itself, the TX line gets one more byte (20_memory.md R71). -/

namespace Sys2Proof.Machine

/-! ### The updates of a register write, applied again -/

@[simp] theorem State.setReg_setReg_self (s : State) (r : Reg) (v v' : Word) : (s.setReg r v).setReg r v' = s.setReg r v' := by
  cases r <;> rfl

theorem State.operate_setReg (s : State) (r : Reg) (v : Word) : s.operate.setReg r v = (s.setReg r v).operate := by
  cases r <;> rfl

@[simp] theorem State.operate_operate (s : State) : s.operate.operate = s.operate := by
  simp only [State.operate, phaseAfterAccess_idem]

/-- An accepted access does not destroy the instance, so the next one is accepted too (44_lifecycle.md R192). -/
theorem Live.operate {s : State} (hl : Live s) : Live s.operate := by
  simp [Live, phaseAfterAccess_of_live hl]

theorem Live.setReg {s : State} (hl : Live s) (r : Reg) (v : Word) : Live (s.setReg r v) := by
  rwa [Live, State.setReg_phase]

/-! ### A write that stores its value, and the write that sends it -/

/-- An instruction whose effect is to store its value in one register is idempotent. -/
theorem writeIsIdempotent_of_effect_eq {mkWrite : Width → BusWord → Instr} (r : Reg)
    (hrow : ∀ w wdata, isRefusedRow (mkWrite w wdata) = false)
    (heffect : ∀ w wdata s, effect (mkWrite w wdata) s = (s.setReg r (narrow wdata w)).operate) :
    WriteIsIdempotent mkWrite := by
  intro w wdata s hl
  have hlive : Live (s.setReg r (narrow wdata w)).operate := (hl.setReg r _).operate
  refine ⟨(s.setReg r (narrow wdata w)).operate, ?_, ?_⟩
  · rw [exec_of_live hl (hrow w wdata), heffect]
  · rw [exec_of_live hlive (hrow w wdata), heffect, State.operate_setReg, State.setReg_setReg_self, State.operate_operate]

theorem live_effect_wrTx {s : State} (hl : Live s) (w : Width) (wdata : BusWord) : Live (effect (.wrTx w wdata) s) :=
  Live.operate (Live.setReg (s := s.handToSink (txByte wdata)) hl .status _)

theorem effect_wrTx_sink (w : Width) (wdata : BusWord) (s : State) :
    (effect (.wrTx w wdata) s).sink = s.sink ++ [txByte wdata] := by
  simp [effect]

/-- Settles O19: the seven stored registers by `writeIsIdempotent_of_effect_eq`; each WR_TX appends one byte to the sink. -/
theorem writesAreIdempotentExceptTx : Obligations.WritesAreIdempotentExceptTx := by
  refine ⟨⟨?baud, ?status, ?delay, ?control, ?ie, ?iqc, ?rxt⟩, ?tx⟩
  case baud => exact writeIsIdempotent_of_effect_eq .baud (fun _ _ => rfl) fun _ _ _ => rfl
  case status => exact writeIsIdempotent_of_effect_eq .status (fun _ _ => rfl) fun _ _ _ => rfl
  case delay => exact writeIsIdempotent_of_effect_eq .delay (fun _ _ => rfl) fun _ _ _ => rfl
  case control => exact writeIsIdempotent_of_effect_eq .control (fun _ _ => rfl) fun _ _ _ => rfl
  case ie => exact writeIsIdempotent_of_effect_eq .interruptEnable (fun _ _ => rfl) fun _ _ _ => rfl
  case iqc => exact writeIsIdempotent_of_effect_eq .iqCycles (fun _ _ => rfl) fun _ _ _ => rfl
  case rxt => exact writeIsIdempotent_of_effect_eq .rxThreshold (fun _ _ => rfl) fun _ _ _ => rfl
  case tx =>
    intro w wdata s hl
    refine ⟨_, _, exec_of_live hl rfl, exec_of_live (live_effect_wrTx hl w wdata) rfl, ?_, ?_⟩ <;> simp [effect_wrTx_sink]

end Sys2Proof.Machine
end

section
/-! SUPPORT. The Register Decoder: how the words of a CPU access decode inside the window, what a read, a write and an invalid
access leave, and which refusal each refused row answers (40_register_access.md). -/

namespace Sys2Proof.Machine

/-! ### The word of a CPU access inside the window (30_encoding.md R85, R86) -/

theorem instrOf_cpuAccess {s : State} (hl : Live s) (dir : Dir) (w : Width) {off : Word}
    (hoff : off.toNat < Config.regionSize) (payload : BusWord) :
    instrOf ⟨packDescriptor 0b00#2 (dirBit dir) (szOfWidth w) 0#3 off, payload⟩ s =
      match dir with
      | .read => decodeRead w off
      | .write => decodeWrite w off payload := by
  rw [instrOf, decode, if_neg hl, if_neg (not_not_intro (descRsv_pack ..)), if_pos (descPort_pack ..)]
  cases dir <;> simp only [decodeCpu, descSz_pack, descOff_pack, descDir_pack, widthOfSz_szOfWidth, if_neg (Nat.not_le.mpr hoff)]

theorem decodeRead_of_notMem {off : Word} (hV : off ∉ validOffsets) (w : Width) : decodeRead w off = .rdBadoff w off := by
  rw [decodeRead, (slotAt_eq_none_iff off).mpr hV]

theorem decodeWrite_of_notMem {off : Word} (hV : off ∉ validOffsets) (w : Width) (wdata : BusWord) :
    decodeWrite w off wdata = .wrBadoff w off wdata := by
  rw [decodeWrite, (slotAt_eq_none_iff off).mpr hV]

theorem readEncodes_badOffset {off : Word} (hoff : off.toNat < Config.regionSize) (hV : off ∉ validOffsets) (w : Width)
    {s : State} (hl : Live s) : ReadEncodes off w s (.rdBadoff w off) := by
  intro payload
  rw [read_descriptor_eq_pack, instrOf_cpuAccess hl .read w hoff]
  exact decodeRead_of_notMem hV w

theorem writeEncodes_badOffset {off : Word} (hoff : off.toNat < Config.regionSize) (hV : off ∉ validOffsets) (w : Width)
    (wdata : BusWord) {s : State} (hl : Live s) : WriteEncodes off w wdata s (.wrBadoff w off wdata) := by
  rw [WriteEncodes, write_descriptor_eq_pack, instrOf_cpuAccess hl .write w hoff]
  exact decodeWrite_of_notMem hV w wdata

/-! ### What a register write leaves -/

theorem canAccept_congr {s t : State} (h : t.status = s.status) : canAccept t = canAccept s := by
  rw [canAccept_eq_not_irq, canAccept_eq_not_irq, irq_congr h]

theorem sameRegsBut_setReg (s : State) (r : Reg) (v : Word) : SameRegsBut r s (s.setReg r v).operate :=
  fun q hq => s.setReg_reg_ne r q v hq

theorem sameOutputs_setReg (s : State) (r : Reg) (v : Word) : SameOutputs s (s.setReg r v).operate := by
  simp [SameOutputs]

theorem sameRecord_setReg (s : State) (r : Reg) (v : Word) : SameRecord s (s.setReg r v).operate := by
  simp [SameRecord]

/-- Storing what the register already holds changes no register. -/
theorem sameRegs_setReg_of_eq {s : State} {r : Reg} {v : Word} (h : v = s.reg r) : SameRegs s (s.setReg r v).operate := by
  rw [h, State.setReg_reg_eq_self]
  exact fun _ => rfl

theorem setReg_operate_phase {s : State} (hl : Live s) (r : Reg) (v : Word) : (s.setReg r v).operate.phase = .operating :=
  phaseAfterAccess_of_live (hl.setReg r v)

theorem setReg_operate_status_of_ne (s : State) {r : Reg} (hr : r ≠ .status) (v : Word) :
    (s.setReg r v).operate.status = s.status :=
  s.setReg_reg_ne r .status v hr.symm

/-! ### An instruction that reads one register, one that writes one, an invalid access -/

theorem live_applyReset (s : State) : Live s.applyReset := by simp [Live]

/-- The read row of a slot whose effect is to answer what a register holds reads that register (40_register_access.md R100). -/
theorem readsRegister_of_effect_eq {mk : Width → Instr} (k : Slot) (r : Reg)
    (hdecode : ∀ w, decodeRead w (slotOffset k) = mk w) (hrow : ∀ w, isRefusedRow (mk w) = false)
    (heffect : ∀ w s, effect (mk w) s = (s.respond (.data (narrow (s.reg r) w))).operate) :
    ReadsRegister r (slotOffset k) mk := by
  intro w s hl
  refine ⟨hdecode w ▸ readEncodes_slot k w hl, ⟨_, exec_of_live hl (hrow w), ?_⟩, ?_⟩
  · rw [heffect]
    exact ⟨rfl, fun _ => rfl, phaseAfterAccess_of_live hl, rfl, rfl, rfl, rfl, rfl, rfl⟩
  · refine ⟨_, _, exec_of_live hl rfl, exec_of_live (live_applyReset s) (hrow w), ?_⟩
    rw [heffect, ← s.applyReset_reg r]
    rfl

/-- The write row of a slot whose effect is to store its value in a register other than STATUS writes that register
(20_memory.md R65). -/
theorem writesRegister_of_effect_eq {mk : Width → BusWord → Instr} (k : Slot) (r : Reg) (hr : r ≠ .status)
    (hdecode : ∀ w wdata, decodeWrite w (slotOffset k) wdata = mk w wdata)
    (hrow : ∀ w wdata, isRefusedRow (mk w wdata) = false)
    (heffect : ∀ w wdata s, effect (mk w wdata) s = (s.setReg r (narrow wdata w)).operate) :
    WritesRegister r (slotOffset k) mk := by
  intro w wdata s hl
  have hstatus := setReg_operate_status_of_ne s hr (narrow wdata w)
  refine ⟨hdecode w wdata ▸ writeEncodes_slot k w wdata hl, _, exec_of_live hl (hrow w wdata), ?_⟩
  rw [heffect]
  exact ⟨s.setReg_reg_self r _, sameRegsBut_setReg s r _, setReg_operate_phase hl r _, sameOutputs_setReg s r _,
    sameRecord_setReg s r _, irq_congr hstatus, canAccept_congr hstatus⟩

/-- An instruction whose effect is to put out one diagnostic and an answer is an invalid access (40_register_access.md R123). -/
theorem invalidAccess_of_effect_eq {i : Instr} {d : Diag} {answer : List Response} (hrow : isRefusedRow i = false)
    (heffect : ∀ s, effect i s = { s with diags := s.diags ++ [d], responses := s.responses ++ answer }.operate) :
    InvalidAccess i d answer := by
  intro s hl
  refine ⟨_, exec_of_live hl hrow, ?_⟩
  rw [heffect]
  exact ⟨rfl, rfl, fun _ => rfl, phaseAfterAccess_of_live hl, rfl, rfl, ⟨rfl, rfl, rfl⟩, irq_congr rfl, canAccept_congr rfl⟩

/-! ### The eight statements -/

/-- Settles O10: each row is the read row of its slot and answers what its register holds. -/
theorem storedRegistersReadAsTheyStand : Obligations.StoredRegistersReadAsTheyStand := by
  refine ⟨?baud, ?status, ?delay, ?control, ?ie, ?iqc, ?rxt⟩
  case baud => exact readsRegister_of_effect_eq .baud .baud (fun _ => rfl) (fun _ => rfl) fun _ _ => rfl
  case status => exact readsRegister_of_effect_eq .status .status (fun _ => rfl) (fun _ => rfl) fun _ _ => rfl
  case delay => exact readsRegister_of_effect_eq .delay .delay (fun _ => rfl) (fun _ => rfl) fun _ _ => rfl
  case control => exact readsRegister_of_effect_eq .control .control (fun _ => rfl) (fun _ => rfl) fun _ _ => rfl
  case ie =>
    exact readsRegister_of_effect_eq .interruptEnable .interruptEnable (fun _ => rfl) (fun _ => rfl) fun _ _ => rfl
  case iqc => exact readsRegister_of_effect_eq .iqCycles .iqCycles (fun _ => rfl) (fun _ => rfl) fun _ _ => rfl
  case rxt => exact readsRegister_of_effect_eq .rxThreshold .rxThreshold (fun _ => rfl) (fun _ => rfl) fun _ _ => rfl

/-- Settles O11: each row is the write row of its slot and stores its value in its register, which is not STATUS. -/
theorem storedRegistersTakeTheWrittenValue : Obligations.StoredRegistersTakeTheWrittenValue := by
  refine ⟨?baud, ?delay, ?control, ?ie, ?iqc, ?rxt⟩
  case baud =>
    exact writesRegister_of_effect_eq .baud .baud (by decide) (fun _ _ => rfl) (fun _ _ => rfl) fun _ _ _ => rfl
  case delay =>
    exact writesRegister_of_effect_eq .delay .delay (by decide) (fun _ _ => rfl) (fun _ _ => rfl) fun _ _ _ => rfl
  case control =>
    exact writesRegister_of_effect_eq .control .control (by decide) (fun _ _ => rfl) (fun _ _ => rfl) fun _ _ _ => rfl
  case ie =>
    exact writesRegister_of_effect_eq .interruptEnable .interruptEnable (by decide) (fun _ _ => rfl) (fun _ _ => rfl)
      fun _ _ _ => rfl
  case iqc =>
    exact writesRegister_of_effect_eq .iqCycles .iqCycles (by decide) (fun _ _ => rfl) (fun _ _ => rfl) fun _ _ _ => rfl
  case rxt =>
    exact writesRegister_of_effect_eq .rxThreshold .rxThreshold (by decide) (fun _ _ => rfl) (fun _ _ => rfl)
      fun _ _ _ => rfl

/-- Settles O12: WR_STATUS stores its value in STATUS, of which the level and the predicate are bit 2. -/
theorem statusWriteSetsEveryBit : Obligations.StatusWriteSetsEveryBit := by
  intro w wdata s hl
  exact ⟨writeEncodes_slot .status w wdata hl, _, exec_of_live hl rfl, rfl, sameRegsBut_setReg s .status _,
    setReg_operate_phase hl .status _, sameOutputs_setReg s .status _, sameRecord_setReg s .status _, rfl, rfl,
    sameRegs_setReg_of_eq (r := .status)⟩

/-- Settles O13: RD_TX is the read row of the TX slot, and its effect is a diagnostic and the answer 0. -/
theorem readOfTxIsInvalid : Obligations.ReadOfTxIsInvalid :=
  fun w => ⟨fun _ hl => readEncodes_slot .tx w hl, invalidAccess_of_effect_eq rfl fun _ => rfl⟩

/-- Settles O14: WR_RX is the write row of the RX slot, and its effect is a diagnostic with no answer. -/
theorem writeOfRxIsInvalid : Obligations.WriteOfRxIsInvalid :=
  fun w wdata => ⟨fun _ hl => writeEncodes_slot .rx w wdata hl,
    invalidAccess_of_effect_eq rfl fun _ => by rw [List.append_nil]; rfl⟩

/-- Settles O15: an offset in the window that names no slot decodes to RD_BADOFF, whose effect is a diagnostic and the
answer 0. -/
theorem readOfABadOffsetIsInvalid : Obligations.ReadOfABadOffsetIsInvalid :=
  fun w _ hoff hV => ⟨fun _ hl => readEncodes_badOffset hoff hV w hl, invalidAccess_of_effect_eq rfl fun _ => rfl⟩

/-- Settles O16: an offset in the window that names no slot decodes to WR_BADOFF, whose effect is a diagnostic with no
answer. -/
theorem writeOfABadOffsetIsInvalid : Obligations.WriteOfABadOffsetIsInvalid :=
  fun w _ wdata hoff hV => ⟨fun _ hl => writeEncodes_badOffset hoff hV w wdata hl,
    invalidAccess_of_effect_eq rfl fun _ => by rw [List.append_nil]; rfl⟩

/-- A refusal with DESTROYED is the same whether the guard or the meaning answers it. -/
theorem whenLive_refuse_destroyed (s : State) : whenLive s (refuse .destroyed) = .refused .destroyed := by
  by_cases hd : s.phase = .destroyed
  · exact whenLive_of_destroyed hd _
  · exact whenLive_of_live hd _

/-- Settles O41: each refused row's meaning is its refusal behind the guard, which a live instance passes. -/
theorem refusedRowsRefuseByName : Obligations.RefusedRowsRefuseByName := by
  intro s
  refine ⟨fun _ => whenLive_refuse_destroyed s, fun hl => ⟨?bits, ?width, ?window, ?form⟩⟩
  case bits => exact fun _ => whenLive_of_live hl _
  case width => exact fun _ _ => whenLive_of_live hl _
  case window => exact fun _ _ _ => whenLive_of_live hl _
  case form => exact fun _ => whenLive_of_live hl _

end Sys2Proof.Machine
end

section
/-! SUPPORT. CAN_ACCEPT: how its word decodes and what it answers (41_receive_path.md R150). -/

namespace Sys2Proof.Machine

@[simp] theorem decodeOther_canAcceptDesc (payload : BusWord) : decodeOther ⟨canAcceptDesc, payload⟩ = .canAccept := rfl

theorem instrOf_canAcceptDesc {s : State} (hl : Live s) (payload : BusWord) :
    instrOf ⟨canAcceptDesc, payload⟩ s = .canAccept := by
  rw [instrOf_of_otherPort hl (by decide) (by decide) payload, decodeOther_canAcceptDesc]

/-- Settles O23: CAN_ACCEPT goes to its `effect`, which answers the predicate, by definition the negation of STATUS bit 2. -/
theorem canAcceptAnswersThePredicate : Obligations.CanAcceptAnswersThePredicate :=
  fun _ hl => ⟨instrOf_canAcceptDesc hl, exec_of_live hl rfl⟩

end Sys2Proof.Machine
end

section
/-! SUPPORT. WR_TX: the one byte it puts out, the one bit of STATUS it changes, and all it leaves as it was
(42_transmit_path.md R170). -/

namespace Sys2Proof.Machine

theorem getLsbD_effect_wrTx_status (w : Width) (wdata : BusWord) (s : State) (n : Nat) :
    (effect (.wrTx w wdata) s).status.getLsbD n = (s.status.getLsbD n && decide (n ≠ 1)) := by
  rw [effect_status, statusAfter, getLsbD_statusAfterTxWrite, decide_not]

theorem sameRegsBut_effect_wrTx (w : Width) (wdata : BusWord) (s : State) :
    SameRegsBut .status s (effect (.wrTx w wdata) s) :=
  sameRegsBut_setReg (s.handToSink (txByte wdata)) .status (statusAfterTxWrite s.status)

theorem effect_wrTx_phase {s : State} (hl : Live s) (w : Width) (wdata : BusWord) :
    (effect (.wrTx w wdata) s).phase = .operating :=
  setReg_operate_phase (s := s.handToSink (txByte wdata)) hl .status (statusAfterTxWrite s.status)

theorem sameRecord_effect_wrTx (w : Width) (wdata : BusWord) (s : State) : SameRecord s (effect (.wrTx w wdata) s) :=
  sameRecord_setReg (s.handToSink (txByte wdata)) .status (statusAfterTxWrite s.status)

/-- The level is bit 2 of STATUS and a TX write touches bit 1 alone (43_interrupt_evaluator.md R182). -/
theorem irq_effect_wrTx (w : Width) (wdata : BusWord) (s : State) : irq (effect (.wrTx w wdata) s) = irq s := by
  rw [irq, effect_status]
  exact getLsbD_statusAfter_of_mayNotChange rfl s

/-- Settles O30: WR_TX is the write row of the TX slot, and its `effect`, in which the sink's answer has no part, is the byte
handed to the sink and bit 1 of STATUS cleared. -/
theorem txWriteForwardsTheLowByte : Obligations.TxWriteForwardsTheLowByte := by
  intro w wdata s hl
  have hirq := irq_effect_wrTx w wdata s
  refine ⟨writeEncodes_slot .tx w wdata hl, effect (.wrTx w wdata) s, exec_of_live hl rfl, effect_wrTx_sink w wdata s,
    getLsbD_effect_wrTx_status w wdata s, sameRegsBut_effect_wrTx w wdata s, effect_wrTx_phase hl w wdata, rfl, rfl, rfl,
    sameRecord_effect_wrTx w wdata s, hirq, ?_⟩
  rw [canAccept_eq_not_irq, canAccept_eq_not_irq, hirq]

end Sys2Proof.Machine
end

section
/-! SUPPORT. The interrupt level: bit 2 of STATUS as arithmetic, and what each instruction makes of it
(43_interrupt_evaluator.md R180, R182). -/

namespace Sys2Proof.Machine

/-! ### The level and the predicate as arithmetic of STATUS -/

theorem irq_eq_decide (s : State) : irq s = decide (s.status.toNat / 4 % 2 = 1) :=
  Nat.testBit_eq_decide_div_mod_eq

theorem canAccept_eq_decide (s : State) : canAccept s = decide (s.status.toNat / 4 % 2 = 0) := by
  rw [canAccept_eq_not_irq, irq_eq_decide, ← decide_not, decide_eq_decide]
  exact Nat.mod_two_ne_one

/-- Settles O32: the level and the predicate are decided by bit 2 of STATUS, the line of a live instance is the level, and
CAN_ACCEPT goes to its `effect`, which answers the predicate. -/
theorem theLevelIsBitTwoOfStatus : Obligations.TheLevelIsBitTwoOfStatus := by
  intro s
  refine ⟨?level, ?predicate, fun hl => ⟨?line, instrOf_canAcceptDesc hl, ?answer⟩⟩
  case level => rw [irq_eq_decide, decide_eq_true_iff]
  case predicate => rw [canAccept_eq_decide, decide_eq_true_iff]
  case line => rw [irqLine_of_live hl, irq_eq_decide]
  case answer =>
    rw [← canAccept_eq_decide]
    exact exec_of_live hl rfl

/-! ### What an instruction makes of the level -/

/-- A delivery sets bit 2 when it is accepted; one that is not finds it set already (41_receive_path.md R151, R152). -/
theorem irq_effect_deliver (b : Byte) (s : State) : irq (effect (.deliver b) s) = true := by
  rw [irq, effect_status, statusAfter]
  split
  case isTrue => exact statusAfterDelivery_two s.status
  case isFalse hfull => simpa [canAccept] using hfull

theorem irq_effect_rdRx (w : Width) (s : State) : irq (effect (.rdRx w) s) = false :=
  statusAfterRxRead_two s.status

theorem irq_effect_of_mayNotChange {i : Instr} (h : mayChangeStatusBit i 2 = false) (s : State) :
    irq (effect i s) = irq s := by
  rw [irq, effect_status]
  exact getLsbD_statusAfter_of_mayNotChange h s

/-- Settles O33: the four transactions that may change bit 2 of STATUS leave the level as stated, every other one keeps that
bit. -/
theorem theLevelChangesAtFourTransactionsOnly : Obligations.TheLevelChangesAtFourTransactionsOnly := by
  intro i s t h
  obtain ⟨-, -, rfl⟩ := exec_next h
  cases i
  case deliver b => exact irq_effect_deliver b s
  case rdRx w => exact irq_effect_rdRx w s
  case wrStatus => rfl
  case reset => exact irq_applyReset s
  all_goals exact irq_effect_of_mayNotChange rfl s

end Sys2Proof.Machine
end

section
/-! SUPPORT. The phase: where each instruction takes it, and that nothing but the phase itself depends on whether it is Reset or
Operating (44_lifecycle.md R192). -/

namespace Sys2Proof.Machine

/-! ### Where the phase goes -/

theorem effect_phase_of_movesPhase {i : Instr} (h : movesPhase i = true) (s : State) :
    (effect i s).phase = phaseAfterAccess s.phase := by
  cases i
  case refusedDestroyed | refusedReservedBits | refusedWidth | refusedWindow | refusedForm | canAccept | reset | destroy =>
    cases h
  case deliver => simp only [effect]; split <;> rfl
  all_goals rfl

/-! ### Two live instances, whatever their phases -/

theorem instrOf_congr_of_live {s u : State} (hs : Live s) (hu : Live u) (q : Request) : instrOf q u = instrOf q s := by
  rw [instrOf, instrOf, decode, decode, if_neg hu, if_neg hs]

theorem whenLive_congr_of_live {s u : State} (hs : Live s) (hu : Live u) (k : Host.Outcome State Fault Refusal) :
    whenLive u k = whenLive s k := by
  rw [whenLive_of_live hu, whenLive_of_live hs]

theorem exec_refusedRow_congr_of_live {i : Instr} {s u : State} (hr : isRefusedRow i = true) (hs : Live s) (hu : Live u) :
    exec i u = exec i s :=
  match i, hr with
  | .refusedDestroyed _, _ => whenLive_congr_of_live hs hu _
  | .refusedReservedBits _, _ => whenLive_congr_of_live hs hu _
  | .refusedWidth _ _, _ => whenLive_congr_of_live hs hu _
  | .refusedWindow _ _ _, _ => whenLive_congr_of_live hs hu _
  | .refusedForm _, _ => whenLive_congr_of_live hs hu _

/-- A live instance refuses the refused rows alone, and each of them in every live phase alike. -/
theorem exec_refused_congr_of_live {i : Instr} {s u : State} {r : Refusal} (hs : Live s) (hu : Live u)
    (h : exec i s = .refused r) : exec i u = .refused r := by
  have hr : isRefusedRow i = true := (exec_refused h).resolve_left hs
  rw [exec_refusedRow_congr_of_live hr hs hu, h]

/-- A state put in another phase, to compare states apart from their phases. -/
def State.withPhase (s : State) (p : Phase) : State := { s with phase := p }

theorem State.live_withPhase (s : State) {p : Phase} (hp : p ≠ .destroyed) : Live (s.withPhase p) := hp

theorem canAccept_withPhase (s : State) (p : Phase) : canAccept (s.withPhase p) = canAccept s := canAccept_congr rfl

/-- The one update that reads the phase is `operate`, which writes nothing else. -/
theorem effect_withPhase (i : Instr) (s : State) (p p' : Phase) :
    (effect i (s.withPhase p)).withPhase p' = (effect i s).withPhase p' := by
  cases i
  case deliver => simp only [effect, canAccept_withPhase]; split <;> rfl
  all_goals rfl

/-- Settles O39: each phase move is read off the instruction's `effect`; Reset and Operating are both live phases, so both decode
and refuse alike, and an `effect` apart from its phase does not depend on the phase. -/
theorem thePhaseMovesAsStatedAndIsUnobservable : Obligations.ThePhaseMovesAsStatedAndIsUnobservable := by
  have hreset (s : State) : Live (s.withPhase .reset) := s.live_withPhase (by decide)
  have hoperating (s : State) : Live (s.withPhase .operating) := s.live_withPhase (by decide)
  refine ⟨?moves, ?refusedKeeps, ?decodes, ?nextStates, ?refusals⟩
  case moves =>
    intro i s t h
    obtain ⟨hl, -, rfl⟩ := exec_next h
    cases i
    case reset | destroy => rfl
    case canAccept | refusedDestroyed | refusedReservedBits | refusedWidth | refusedWindow | refusedForm => rfl
    all_goals exact (effect_phase_of_movesPhase rfl s).trans (phaseAfterAccess_of_live hl)
  case refusedKeeps =>
    intro q s r h
    rw [serve_of_refused h, State.recordRefusal_phase]
  case decodes => exact fun q s => instrOf_congr_of_live (hoperating s) (hreset s) q
  case nextStates =>
    intro i s t h
    obtain ⟨-, hr, rfl⟩ := exec_next h
    refine ⟨effect i (s.withPhase .operating), exec_of_live (hoperating s) hr, ?_⟩
    exact (effect_withPhase i s .operating .reset).trans (effect_withPhase i s .reset .reset).symm
  case refusals => exact fun i s r h => exec_refused_congr_of_live (hreset s) (hoperating s) h

end Sys2Proof.Machine
end

section
/-! SUPPORT. Diagnostics: an instruction emits the one of its row or none, and what the decoder answers emits legal ones only
(60_exceptions.md R201). -/

namespace Sys2Proof.Machine

theorem effect_diags (i : Instr) (s : State) : (effect i s).diags = s.diags ++ (invalidDiag i).toList := by
  cases i
  case rdTx | wrRx | rdBadoff | wrBadoff => rfl
  case deliver => simp only [effect]; split <;> exact (List.append_nil _).symm
  all_goals exact (List.append_nil _).symm

/-- Settles O17: a next state is the instruction's `effect`, which appends the diagnostic of its row. -/
theorem diagnosticsComeFromInvalidAccessesOnly : Obligations.DiagnosticsComeFromInvalidAccessesOnly := by
  intro i s t h
  obtain ⟨-, -, rfl⟩ := exec_next h
  exact effect_diags i s

/-! ### The diagnostics of decoded transactions are legal -/

section
variable {w : Width} {off : Word} {d : Diag}

/-- Inside the window a read is a slot's read row, of which RD_TX alone emits, or RD_BADOFF at an offset outside V. -/
theorem diagLegal_of_decodeRead (hoff : off.toNat < Config.regionSize) (h : invalidDiag (decodeRead w off) = some d) :
    DiagLegal d := by
  cases hk : slotAt off with
  | none =>
    have hV : off ∉ validOffsets := (slotAt_eq_none_iff off).mp hk
    rw [decodeRead_of_notMem hV] at h
    cases h
    exact ⟨hV, hoff⟩
  | some k =>
    rw [← slotOffset_of_slotAt hk] at h
    cases k
    case tx => cases h; exact ⟨rfl, rfl⟩
    all_goals cases h

/-- Inside the window a write is a slot's write row, of which WR_RX alone emits, or WR_BADOFF at an offset outside V. -/
theorem diagLegal_of_decodeWrite {wdata : BusWord} (hoff : off.toNat < Config.regionSize)
    (h : invalidDiag (decodeWrite w off wdata) = some d) : DiagLegal d := by
  cases hk : slotAt off with
  | none =>
    have hV : off ∉ validOffsets := (slotAt_eq_none_iff off).mp hk
    rw [decodeWrite_of_notMem hV] at h
    cases h
    exact ⟨hV, hoff⟩
  | some k =>
    rw [← slotOffset_of_slotAt hk] at h
    cases k
    case rx => cases h; exact ⟨rfl, rfl⟩
    all_goals cases h

/-- A CPU access emits past the width check and the window check only (30_encoding.md R85). -/
theorem diagLegal_of_decodeCpu {q : Request} (h : invalidDiag (decodeCpu Config.regionSize q) = some d) : DiagLegal d := by
  unfold decodeCpu at h
  split at h
  · cases h
  · split at h
    case isTrue => cases h
    case isFalse hwindow =>
      have hoff := Nat.not_le.mp hwindow
      split at h
      · exact diagLegal_of_decodeRead hoff h
      · exact diagLegal_of_decodeWrite hoff h

end

theorem invalidDiag_decodeOther (q : Request) : invalidDiag (decodeOther q) = none := by
  unfold decodeOther
  split_ifs <;> rfl

theorem diagLegal_of_instrOf {q : Request} {s : State} {d : Diag} (h : invalidDiag (instrOf q s) = some d) :
    DiagLegal d := by
  unfold instrOf decode at h
  split_ifs at h with hdestroyed hrsv hport
  · cases h
  · cases h
  · exact diagLegal_of_decodeCpu h
  · rw [invalidDiag_decodeOther] at h
    cases h

end Sys2Proof.Machine
end

section
/-! SUPPORT. The block's state vector (10_state.md section 1): what was put out and what is presented has no part in what an
instruction does to registers, phase and fault flag. -/

namespace Sys2Proof.Machine

/-- `s` with another record: what `o` has put out and what is presented to `o`. -/
def State.withRecordOf (s o : State) : State :=
  { s with
    responses := o.responses
    sink := o.sink
    notifies := o.notifies
    diags := o.diags
    refusals := o.refusals
    inbox := o.inbox }

/-- States of the same block differ in the record alone. -/
theorem SameBlock.eq_withRecordOf {s u : State} (h : SameBlock s u) : u = s.withRecordOf u := by
  obtain ⟨hregs, hphase, hfault⟩ := h
  have hreg (r : Reg) : s.reg r = u.reg r := (hregs r).symm
  simp only [State.withRecordOf, ← hphase, ← hfault, ← s.reg_baud, ← s.reg_rx, ← s.reg_status, ← s.reg_delay,
    ← s.reg_control, ← s.reg_interruptEnable, ← s.reg_iqCycles, ← s.reg_rxThreshold, hreg]
  rfl

theorem canAccept_withRecordOf (s o : State) : canAccept (s.withRecordOf o) = canAccept s := canAccept_congr rfl

/-- No update of a register, the phase or the fault flag reads the record. -/
theorem sameBlock_effect_withRecordOf (i : Instr) (s o : State) :
    SameBlock (effect i s) (effect i (s.withRecordOf o)) := by
  cases i
  case deliver => simp only [effect, canAccept_withRecordOf]; split <;> exact ⟨fun _ => rfl, rfl, rfl⟩
  all_goals exact ⟨fun _ => rfl, rfl, rfl⟩

theorem SameBlock.effect {s u : State} (h : SameBlock s u) (i : Instr) : SameBlock (effect i s) (effect i u) := by
  rw [h.eq_withRecordOf]
  exact sameBlock_effect_withRecordOf i s u

/-- Settles O48: both states are live and go to the instruction's `effect`, or both are refused, which depends on the phase
alone. -/
theorem noOtherStateExists : Obligations.NoOtherStateExists := by
  intro i s u h
  obtain ⟨-, hphase, -⟩ := id h
  refine ⟨fun t ht => ?_, fun r => exec_refused_congr hphase⟩
  obtain ⟨hl, hr, rfl⟩ := exec_next ht
  have hlu : Live u := by rwa [Live, hphase]
  exact ⟨effect i u, exec_of_live hlu hr, h.effect i⟩

end Sys2Proof.Machine
end

section
/-! SUPPORT. The invariant: each of its three clauses is kept by every accepted instruction, the diagnostics' clause by those
the decoder answers. -/

namespace Sys2Proof.Machine

/-! ### The clauses, one by one -/

theorem rxWord_lt (b : Byte) : (rxWord b).toNat < 256 := by
  rw [rxWord, BitVec.toNat_setWidth]
  exact (Nat.mod_le ..).trans_lt b.isLt

/-- A delivery zero-extends its byte, RESET zeroes RX, no other instruction writes it (10_state.md R24). -/
theorem effect_rx_lt {s : State} (hrx : s.rx.toNat < 256) (i : Instr) : (effect i s).rx.toNat < 256 := by
  cases i
  case deliver b =>
    simp only [effect]
    split
    · exact rxWord_lt b
    · exact hrx
  case reset => exact Nat.zero_lt_succ 255
  all_goals exact hrx

theorem diagLegal_effect {i : Instr} {s : State} (hi : ∀ d, invalidDiag i = some d → DiagLegal d)
    (hdiags : ∀ d ∈ s.diags, DiagLegal d) : ∀ d ∈ (effect i s).diags, DiagLegal d := by
  intro d hd
  rw [effect_diags, List.mem_append, Option.mem_toList] at hd
  exact hd.elim (hdiags d) (hi d)

/-- RESET alone enters phase Reset; what stays in it changes no register (44_lifecycle.md R191, R192). -/
theorem effect_reg_of_phase_reset {s : State} (hl : Live s) (hregs : s.phase = .reset → ∀ r, s.reg r = resetValue r)
    (i : Instr) (hphase : (effect i s).phase = .reset) (r : Reg) : (effect i s).reg r = resetValue r := by
  cases i
  case reset => exact s.applyReset_reg r
  case destroy => cases hphase
  case canAccept | refusedDestroyed | refusedReservedBits | refusedWidth | refusedWindow | refusedForm =>
    exact hregs hphase r
  all_goals
    rw [effect_phase_of_movesPhase rfl, phaseAfterAccess_of_live hl] at hphase
    cases hphase

/-! ### The invariant along a step -/

section
variable {s : State} (h : Inv s)
include h

theorem Inv.withInbox (rest : List Request) : Inv (s.withInbox rest) := h

theorem Inv.recordRefusal (r : Refusal) : Inv (s.recordRefusal r) := h

theorem Inv.effect (hl : Live s) {i : Instr} (hi : ∀ d, invalidDiag i = some d → DiagLegal d) : Inv (effect i s) := by
  obtain ⟨hrx, hdiags, hregs⟩ := h
  exact ⟨effect_rx_lt hrx i, diagLegal_effect hi hdiags, effect_reg_of_phase_reset hl hregs i⟩

theorem Inv.serve (q : Request) : Inv (serve q s) := by
  rcases serve_cases q s with ⟨r, -, hserve⟩ | hserve
  · rw [hserve]
    exact h.recordRefusal r
  · obtain ⟨hl, -, heffect⟩ := exec_next hserve
    rw [heffect]
    exact h.effect hl fun _ => diagLegal_of_instrOf

end

/-- Settles O52: a step with nothing presented keeps the state, and one that takes a request serves it, which keeps the
invariant. -/
theorem everyStepKeepsTheInvariant : Obligations.EveryStepKeepsTheInvariant := by
  intro s t h hstep
  cases hinbox : s.inbox with
  | nil =>
    rw [step_of_nil hinbox] at hstep
    cases hstep
    exact h
  | cons q rest =>
    rw [step_of_cons hinbox] at hstep
    cases hstep
    exact (h.withInbox rest).serve q

end Sys2Proof.Machine
end

section
/-! SUPPORT. The decoder: what it can answer, said once (30_encoding.md R85), and how it and the encoder undo each other. -/

namespace Sys2Proof

/-! ### What the decoder can answer -/

/-- A CPU access with the reserved bits clear and a width code that names `w` (30_encoding.md R81, R82). -/
structure LegalCpuAccess (d : Descriptor) (w : Width) : Prop where
  rsv : descRsv d = 0#3
  port : descPort d = 0b00#2
  width : widthOfSz (descSz d) = some w

/-- What the decoder can answer a request with: one constructor per check of R85, in its order, each with what the checks
before it found. -/
inductive DecodesTo (ph : Phase) (region : Nat) (q : Request) : Instr → Prop where
  | destroyed (hph : ph = .destroyed) : DecodesTo ph region q (.refusedDestroyed q.desc)
  | reservedBits (hph : ph ≠ .destroyed) (hrsv : descRsv q.desc ≠ 0#3) : DecodesTo ph region q (.refusedReservedBits q.desc)
  | width (hph : ph ≠ .destroyed) (hrsv : descRsv q.desc = 0#3) (hport : descPort q.desc = 0b00#2)
      (hsz : descSz q.desc = 0b11#2) : DecodesTo ph region q (.refusedWidth (descDir q.desc) (descOff q.desc))
  | window {w : Width} (hph : ph ≠ .destroyed) (hcpu : LegalCpuAccess q.desc w) (hoff : region ≤ (descOff q.desc).toNat) :
      DecodesTo ph region q (.refusedWindow (descDir q.desc) w (descOff q.desc))
  | read {w : Width} (hph : ph ≠ .destroyed) (hcpu : LegalCpuAccess q.desc w) (hoff : (descOff q.desc).toNat < region)
      (hdir : descDir q.desc = .read) : DecodesTo ph region q (decodeRead w (descOff q.desc))
  | write {w : Width} (hph : ph ≠ .destroyed) (hcpu : LegalCpuAccess q.desc w) (hoff : (descOff q.desc).toNat < region)
      (hdir : descDir q.desc = .write) : DecodesTo ph region q (decodeWrite w (descOff q.desc) q.payload)
  | other (hph : ph ≠ .destroyed) (hrsv : descRsv q.desc = 0#3) (hport : descPort q.desc ≠ 0b00#2) :
      DecodesTo ph region q (decodeOther q)

theorem decodesTo_decodeCpu {ph : Phase} {region : Nat} {q : Request} (hph : ph ≠ .destroyed)
    (hrsv : descRsv q.desc = 0#3) (hport : descPort q.desc = 0b00#2) : DecodesTo ph region q (decodeCpu region q) := by
  unfold decodeCpu
  split
  case h_1 hsz => exact .width hph hrsv hport (widthOfSz_eq_none.mp hsz)
  case h_2 w hw =>
    have hcpu : LegalCpuAccess q.desc w := ⟨hrsv, hport, hw⟩
    split
    case isTrue hoff => exact .window hph hcpu hoff
    case isFalse hoff =>
      split
      case h_1 hdir => exact .read hph hcpu (Nat.not_le.mp hoff) hdir
      case h_2 hdir => exact .write hph hcpu (Nat.not_le.mp hoff) hdir

/-- The inversion of the decoder. -/
theorem decodesTo_decode (ph : Phase) (region : Nat) (q : Request) : DecodesTo ph region q (decode ph region q) := by
  unfold decode
  split
  case isTrue hph => exact .destroyed hph
  case isFalse hph =>
    split
    case isTrue hrsv => exact .reservedBits hph hrsv
    case isFalse hrsv =>
      have hrsv := not_not.mp hrsv
      split
      case isTrue hport => exact decodesTo_decodeCpu hph hrsv hport
      case isFalse hport => exact .other hph hrsv hport

/-- The inversion of a slot's lookup: the offset of a slot, or one outside V. -/
theorem offset_cases {P : Word → Prop} (slot : ∀ k, P (slotOffset k)) (bad : ∀ off, off ∉ validOffsets → P off) (off : Word) :
    P off := by
  cases hk : slotAt off with
  | none => exact bad off ((slotAt_eq_none_iff off).mp hk)
  | some k => exact slotOffset_of_slotAt hk ▸ slot k

/-! ### Decoded instructions are well-formed -/

section
variable {ph : Phase} (hph : ph ≠ .destroyed) {region : Nat}
include hph

theorem wellFormed_decodeRead (w : Width) {off : Word} (hoff : off.toNat < region) :
    WellFormed ph region (decodeRead w off) = true := by
  induction off using offset_cases with
  | slot k => cases k <;> exact decide_eq_true hph
  | bad off hV => simp [Machine.decodeRead_of_notMem hV, WellFormed, hph, hoff, hV]

theorem wellFormed_decodeWrite (w : Width) {off : Word} (wdata : BusWord) (hoff : off.toNat < region) :
    WellFormed ph region (decodeWrite w off wdata) = true := by
  induction off using offset_cases with
  | slot k => cases k <;> exact decide_eq_true hph
  | bad off hV => simp [Machine.decodeWrite_of_notMem hV, WellFormed, hph, hoff, hV]

theorem wellFormed_decodeOther {q : Request} (hrsv : descRsv q.desc = 0#3) (hport : descPort q.desc ≠ 0b00#2) :
    WellFormed ph region (decodeOther q) = true := by
  unfold decodeOther
  split_ifs
  case neg => simp [WellFormed, *]
  all_goals exact decide_eq_true hph

end

theorem DecodesTo.wellFormed {ph : Phase} {region : Nat} {q : Request} {i : Instr} (h : DecodesTo ph region q i) :
    WellFormed ph region i = true := by
  cases h with
  | destroyed hph => exact decide_eq_true hph
  | reservedBits hph hrsv => simp [WellFormed, hph, hrsv]
  | width hph => exact decide_eq_true hph
  | window hph _ hoff => simp [WellFormed, hph, hoff]
  | read hph _ hoff => exact wellFormed_decodeRead hph _ hoff
  | write hph _ hoff => exact wellFormed_decodeWrite hph _ q.payload hoff
  | other hph hrsv hport => exact wellFormed_decodeOther hph hrsv hport

/-- Settles O5: each answer of the decoder meets the conditions of its row, which are the checks that led to it. -/
theorem decodedInstructionsAreWellFormed : Obligations.DecodedInstructionsAreWellFormed :=
  fun ph region q => (decodesTo_decode ph region q).wellFormed

/-! ### Encoding what was decoded -/

theorem encode_decodeRead (w : Width) (off : Word) : encode (decodeRead w off) = readRequest w off := by
  induction off using offset_cases with
  | slot k => cases k <;> rfl
  | bad off hV => rw [Machine.decodeRead_of_notMem hV]; rfl

theorem encode_decodeWrite (w : Width) (off : Word) (wdata : BusWord) :
    encode (decodeWrite w off wdata) = writeRequest w off wdata := by
  induction off using offset_cases with
  | slot k => cases k <;> rfl
  | bad off hV => rw [Machine.decodeWrite_of_notMem hV]; rfl

theorem carriedPayload_decodeRead (w : Width) (off : Word) (payload : BusWord) :
    carriedPayload (decodeRead w off) payload = 0#64 := by
  induction off using offset_cases with
  | slot k => cases k <;> rfl
  | bad off hV => rw [Machine.decodeRead_of_notMem hV]; rfl

theorem carriedPayload_decodeWrite (w : Width) (off : Word) (wdata payload : BusWord) :
    carriedPayload (decodeWrite w off wdata) payload = payload := by
  induction off using offset_cases with
  | slot k => cases k <;> rfl
  | bad off hV => rw [Machine.decodeWrite_of_notMem hV]; rfl

/-- A legal CPU access is packed from port 00, its direction, the code of its width, no reserved bit, and its offset. -/
theorem LegalCpuAccess.pack_eq {d : Descriptor} {w : Width} (h : LegalCpuAccess d w) :
    packDescriptor 0b00#2 (dirBit (descDir d)) (szOfWidth w) 0#3 (descOff d) = d := by
  rw [szOfWidth_of_widthOfSz h.width, ← h.rsv, ← h.port, pack_desc]

theorem encode_decodeOther (q : Request) :
    encode (decodeOther q) = ⟨q.desc, carriedPayload (decodeOther q) q.payload⟩ := by
  unfold decodeOther
  split_ifs with h1 h2 h3 h4
  · rw [h1]; rfl
  · rw [h2]; rfl
  · rw [h3]; rfl
  · rw [h4]; rfl
  · rfl

/-- Encoding undoes decoding, but for the payload bits the kind of transaction does not carry (30_encoding.md R81, R88). -/
theorem DecodesTo.encode_eq {ph : Phase} {region : Nat} {q : Request} {i : Instr} (h : DecodesTo ph region q i) :
    encode i = ⟨q.desc, carriedPayload i q.payload⟩ := by
  cases h with
  | destroyed | reservedBits => rfl
  | width _ hrsv hport hsz =>
    have hpack := pack_desc q.desc
    rw [hrsv, hport, hsz] at hpack
    exact congrArg (Request.mk · _) hpack
  | window _ hcpu => exact congrArg (Request.mk · _) hcpu.pack_eq
  | read _ hcpu _ hdir =>
    have hpack := hcpu.pack_eq
    rw [hdir] at hpack
    rw [encode_decodeRead, carriedPayload_decodeRead]
    exact congrArg (Request.mk · _) hpack
  | write _ hcpu _ hdir =>
    have hpack := hcpu.pack_eq
    rw [hdir] at hpack
    rw [encode_decodeWrite, carriedPayload_decodeWrite]
    exact congrArg (Request.mk · _) hpack
  | other => exact encode_decodeOther q

/-- Settles O4: the two fields of `DecodesTo.encode_eq`. -/
theorem encodeOfDecodeKeepsTheDescriptor : Obligations.EncodeOfDecodeKeepsTheDescriptor := by
  intro ph region q
  rw [(decodesTo_decode ph region q).encode_eq]
  exact ⟨rfl, rfl⟩

/-! ### Decoding what was encoded -/

section
variable {ph : Phase} (hph : ph ≠ .destroyed) {region : Nat}
include hph

/-- A packed CPU access reaches the width check. -/
theorem decode_cpuAccess (dir : Dir) (sz : BitVec 2) (off : Word) (payload : BusWord) :
    decode ph region ⟨packDescriptor 0b00#2 (dirBit dir) sz 0#3 off, payload⟩ =
      decodeCpu region ⟨packDescriptor 0b00#2 (dirBit dir) sz 0#3 off, payload⟩ := by
  rw [decode, if_neg hph, if_neg (not_not_intro (descRsv_pack ..)), if_pos (descPort_pack ..)]

theorem decode_readRequest (w : Width) {off : Word} (hoff : off.toNat < region) :
    decode ph region (readRequest w off) = decodeRead w off := by
  refine (decode_cpuAccess hph .read ..).trans ?_
  simp only [decodeCpu, descSz_pack, descOff_pack, descDir_pack, widthOfSz_szOfWidth, if_neg (Nat.not_le.mpr hoff)]

theorem decode_writeRequest (w : Width) (wdata : BusWord) {off : Word} (hoff : off.toNat < region) :
    decode ph region (writeRequest w off wdata) = decodeWrite w off wdata := by
  refine (decode_cpuAccess hph .write ..).trans ?_
  simp only [decodeCpu, descSz_pack, descOff_pack, descDir_pack, widthOfSz_szOfWidth, if_neg (Nat.not_le.mpr hoff)]

theorem decode_refusedWidth (dir : Dir) (off : Word) :
    decode ph region (encode (.refusedWidth dir off)) = .refusedWidth dir off := by
  refine (decode_cpuAccess hph dir ..).trans ?_
  simp only [decodeCpu, descSz_pack, descOff_pack, descDir_pack, widthOfSz_eq_none.mpr]

theorem decode_refusedWindow (dir : Dir) (w : Width) {off : Word} (hoff : region ≤ off.toNat) :
    decode ph region (encode (.refusedWindow dir w off)) = .refusedWindow dir w off := by
  refine (decode_cpuAccess hph dir ..).trans ?_
  simp only [decodeCpu, descSz_pack, descOff_pack, descDir_pack, widthOfSz_szOfWidth, if_pos hoff]

theorem decode_of_otherPort {d : Descriptor} (hrsv : descRsv d = 0#3) (hport : descPort d ≠ 0b00#2) (payload : BusWord) :
    decode ph region ⟨d, payload⟩ = decodeOther ⟨d, payload⟩ := by
  rw [decode, if_neg hph, if_neg (not_not_intro hrsv), if_neg hport]

end

theorem slotOffset_lt {region : Nat} (hregion : 0x24 ≤ region) (k : Slot) : (slotOffset k).toNat < region :=
  Nat.lt_of_lt_of_le (by cases k <;> decide) hregion

theorem decodeOther_deliverRequest (b : Byte) : decodeOther (deliverRequest b) = .deliver b := by
  rw [decodeOther, deliverRequest, if_pos rfl, BitVec.setWidth_setWidth_of_le _ (by decide), BitVec.setWidth_eq]

/-- Settles O3: a well-formed instruction passes the very checks of its row, and its operands are the fields its encoding packs. -/
theorem decodeOfEncodeIsTheInstruction : Obligations.DecodeOfEncodeIsTheInstruction := by
  intro ph region i hregion hwf
  have hslot := slotOffset_lt hregion
  cases i
  case refusedDestroyed d => exact if_pos (of_decide_eq_true hwf)
  case refusedReservedBits d =>
    simp only [WellFormed, Bool.and_eq_true, decide_eq_true_eq] at hwf
    obtain ⟨hph, hrsv⟩ := hwf
    rw [encode, decode, if_neg hph, if_pos hrsv]
  case refusedWidth dir off => exact decode_refusedWidth (of_decide_eq_true hwf) dir off
  case refusedWindow dir w off =>
    simp only [WellFormed, Bool.and_eq_true, decide_eq_true_eq] at hwf
    obtain ⟨hph, hoff⟩ := hwf
    exact decode_refusedWindow hph dir w hoff
  case rdBadoff w off =>
    simp only [WellFormed, Bool.and_eq_true, decide_eq_true_eq] at hwf
    obtain ⟨hph, hoff, hV⟩ := hwf
    exact (decode_readRequest hph w hoff).trans (Machine.decodeRead_of_notMem hV w)
  case wrBadoff w off wdata =>
    simp only [WellFormed, Bool.and_eq_true, decide_eq_true_eq] at hwf
    obtain ⟨hph, hoff, hV⟩ := hwf
    exact (decode_writeRequest hph w wdata hoff).trans (Machine.decodeWrite_of_notMem hV w wdata)
  case refusedForm d =>
    simp only [WellFormed, Bool.and_eq_true, decide_eq_true_eq, List.mem_cons, List.not_mem_nil, or_false, not_or] at hwf
    obtain ⟨hph, hrsv, hport, hdeliver, hcanAccept, hreset, hdestroy⟩ := hwf
    rw [encode, decode_of_otherPort hph hrsv hport, decodeOther, if_neg hdeliver, if_neg hreset, if_neg hdestroy,
      if_neg hcanAccept]
  case deliver b =>
    exact (decode_of_otherPort (of_decide_eq_true hwf) (by decide) (by decide) _).trans (decodeOther_deliverRequest b)
  case canAccept | reset | destroy =>
    exact decode_of_otherPort (of_decide_eq_true hwf) (by decide) (by decide) _
  case rdBaud w | rdTx w | rdRx w | rdStatus w | rdDelay w | rdControl w | rdIe w | rdIqc w | rdRxt w =>
    exact decode_readRequest (of_decide_eq_true hwf) w (hslot _)
  case wrBaud w wdata | wrTx w wdata | wrRx w wdata | wrStatus w wdata | wrDelay w wdata | wrControl w wdata |
      wrIe w wdata | wrIqc w wdata | wrRxt w wdata =>
    exact decode_writeRequest (of_decide_eq_true hwf) w wdata (hslot _)

end Sys2Proof
end

section
/-! SUPPORT. The opcode table as a search: which of its 29 rows matches a descriptor first (30_encoding.md R90). -/

namespace Sys2Proof

/-! ### A mask and a pattern, field by field -/

theorem extractDir_pack (p : BitVec 2) (d : BitVec 1) (z : BitVec 2) (r : BitVec 3) (o : Word) :
    (packDescriptor p d z r o).extractLsb' 37 1 = d := by
  refine BitVec.eq_of_getLsbD_eq fun i hi => ?_
  obtain rfl : i = 0 := Nat.lt_one_iff.mp hi
  rw [BitVec.getLsbD_extractLsb', getLsbD_packDescriptor]
  rfl

theorem and_pack_eq_pack_iff (d : Descriptor) (mp : BitVec 2) (md : BitVec 1) (mz : BitVec 2) (mr : BitVec 3) (mo : Word)
    (p : BitVec 2) (dir : Dir) (z : BitVec 2) (r : BitVec 3) (o : Word) :
    d &&& packDescriptor mp md mz mr mo = packDescriptor p (dirBit dir) z r o ↔
      (descPort d &&& mp = p ∧ dirBit (descDir d) &&& md = dirBit dir ∧ descSz d &&& mz = z ∧ descRsv d &&& mr = r ∧
        descOff d &&& mo = o) := by
  rw [desc_and_mask_eq_iff, extractDir_pack]
  simp only [descPort_pack, descDir_pack, descSz_pack, descRsv_pack, descOff_pack]

/-! ### The checks each row stands for -/

section
variable (ph : Phase) (region : Nat) (d : Descriptor)

/-- A row without a mask is its condition. -/
theorem rowMatches_unmasked (name : String) (c : RowCond) (n : Nat) :
    rowMatches ⟨name, 0#40, 0#40, c, n⟩ ph region d = rowCondHolds c ph region d := by
  simp [rowMatches]

theorem rowMatches_exact (name : String) (p : Descriptor) (n : Nat) :
    rowMatches ⟨name, p, 0xFFFFFFFFFF#40, .always, n⟩ ph region d = decide (d = p) := by
  rw [rowMatches, rowCondHolds, Bool.and_true, show 0xFFFFFFFFFF#40 = BitVec.allOnes 40 from rfl, BitVec.and_allOnes]

theorem rowMatches_refusedWidth (name : String) (n : Nat) :
    rowMatches ⟨name, 0x1800000000#40, 0xD800000000#40, .always, n⟩ ph region d =
      decide (descPort d = 0b00#2 ∧ descSz d = 0b11#2) := by
  have hmask : 0xD800000000#40 = packDescriptor (.allOnes 2) 0#1 (.allOnes 2) 0#3 0#32 := by decide
  have hpattern : 0x1800000000#40 = packDescriptor 0b00#2 (dirBit .read) 0b11#2 0#3 0#32 := by decide
  rw [rowMatches, rowCondHolds, Bool.and_true, decide_eq_decide, hmask, hpattern, and_pack_eq_pack_iff]
  simp only [BitVec.and_allOnes, BitVec.and_zero, dirBit, true_and, and_true]

theorem rowMatches_refusedWindow (name : String) (n : Nat) :
    rowMatches ⟨name, 0x0000000000#40, 0xC700000000#40, .outsideWindow, n⟩ ph region d =
      decide ((descPort d = 0b00#2 ∧ descRsv d = 0#3) ∧ descSz d ≠ 0b11#2 ∧ region ≤ (descOff d).toNat) := by
  have hmask : 0xC700000000#40 = packDescriptor (.allOnes 2) 0#1 0#2 (.allOnes 3) 0#32 := by decide
  have hpattern : 0x0000000000#40 = packDescriptor 0b00#2 (dirBit .read) 0#2 0#3 0#32 := by decide
  rw [rowMatches, rowCondHolds, ← Bool.decide_and, decide_eq_decide, hmask, hpattern, and_pack_eq_pack_iff]
  simp only [BitVec.and_allOnes, BitVec.and_zero, dirBit, true_and, and_true]

/-- The mask of a slot's row covers every field but the width. -/
theorem rowMatches_slot (name : String) (dir : Dir) (off : Word) (n : Nat) :
    rowMatches ⟨name, packDescriptor 0b00#2 (dirBit dir) 0b00#2 0#3 off, 0xE7FFFFFFFF#40, .legalWidth, n⟩ ph region d =
      decide ((descPort d = 0b00#2 ∧ descDir d = dir ∧ descRsv d = 0#3 ∧ descOff d = off) ∧ descSz d ≠ 0b11#2) := by
  have hmask : 0xE7FFFFFFFF#40 = packDescriptor (.allOnes 2) (.allOnes 1) 0#2 (.allOnes 3) (.allOnes 32) := by decide
  rw [rowMatches, rowCondHolds, ← Bool.decide_and, decide_eq_decide, hmask, and_pack_eq_pack_iff]
  simp only [BitVec.and_allOnes, BitVec.and_zero, dirBit_inj, true_and]

theorem rowMatches_badOffset (name : String) (dir : Dir) (n : Nat) :
    rowMatches ⟨name, packDescriptor 0b00#2 (dirBit dir) 0b00#2 0#3 0#32, 0xE700000000#40, .badOffset, n⟩ ph region d =
      decide ((descPort d = 0b00#2 ∧ descDir d = dir ∧ descRsv d = 0#3) ∧
        descSz d ≠ 0b11#2 ∧ (descOff d).toNat < region ∧ descOff d ∉ validOffsets) := by
  have hmask : 0xE700000000#40 = packDescriptor (.allOnes 2) (.allOnes 1) 0#2 (.allOnes 3) 0#32 := by decide
  rw [rowMatches, rowCondHolds, ← Bool.decide_and, decide_eq_decide, hmask, and_pack_eq_pack_iff]
  simp only [BitVec.and_allOnes, BitVec.and_zero, dirBit_inj, true_and, and_true]

/-! ### The name of the first row that matches -/

/-- The name of the first of some rows that matches. -/
def firstName (rows : List OpcodeRow) : Option String :=
  (rows.find? fun r => rowMatches r ph region d).map OpcodeRow.name

theorem firstName_nil : firstName ph region d [] = none := rfl

theorem firstName_cons (r : OpcodeRow) (rows : List OpcodeRow) :
    firstName ph region d (r :: rows) =
      if rowMatches r ph region d = true then some r.name else firstName ph region d rows := by
  rw [firstName, List.find?_cons]
  split <;> simp [*, firstName]

theorem firstName_append (rows rows' : List OpcodeRow) :
    firstName ph region d (rows ++ rows') = (firstName ph region d rows).or (firstName ph region d rows') := by
  rw [firstName, List.find?_append, Option.map_or]
  rfl

theorem firstName_opcodeTable :
    firstName ph region d opcodeTable =
      (((firstName ph region d refusalRows).or (firstName ph region d readRows)).or (firstName ph region d writeRows)).or
        (firstName ph region d otherRows) := by
  rw [opcodeTable, firstName_append, firstName_append, firstName_append]

theorem firstName_refusalRows :
    firstName ph region d refusalRows =
      if ph = .destroyed then some "REFUSED_DESTROYED"
      else if descRsv d ≠ 0#3 then some "REFUSED_RESERVED_BITS"
      else if descPort d = 0b00#2 ∧ descSz d = 0b11#2 then some "REFUSED_WIDTH"
      else if (descPort d = 0b00#2 ∧ descRsv d = 0#3) ∧ descSz d ≠ 0b11#2 ∧ region ≤ (descOff d).toNat then
        some "REFUSED_WINDOW"
      else none := by
  simp only [refusalRows, firstName_cons, firstName_nil, rowMatches_unmasked, rowMatches_refusedWidth,
    rowMatches_refusedWindow, rowCondHolds, decide_eq_true_eq]

/-! ### The rows of the nine slots -/

/-- The nine slots, in the order of their offsets (20_memory.md R61). -/
def slots : List Slot := [.baud, .tx, .rx, .status, .delay, .control, .interruptEnable, .iqCycles, .rxThreshold]

/-- The name of a slot's read row or write row. -/
def slotRowName (dir : Dir) (k : Slot) : String :=
  match dir with
  | .read => mnemonic (decodeRead .one (slotOffset k))
  | .write => mnemonic (decodeWrite .one (slotOffset k) 0#64)

/-- The table's row of one direction and one slot. -/
def slotRow (dir : Dir) (k : Slot) : OpcodeRow :=
  ⟨slotRowName dir k, packDescriptor 0b00#2 (dirBit dir) 0b00#2 0#3 (slotOffset k), 0xE7FFFFFFFF#40, .legalWidth, 4⟩

theorem readRows_eq : readRows = slots.map (slotRow .read) := by decide

theorem writeRows_eq : writeRows = slots.map (slotRow .write) := by decide

/-- Looking an offset up in V and in the list of slots is the same. -/
theorem find?_slots (off : Word) : (slots.find? fun k => decide (off = slotOffset k)) = slotAt off := by
  induction off using offset_cases with
  | slot k => cases k <;> rfl
  | bad off hV =>
    have hslot := (slotAt_eq_none_iff off).mpr hV
    rw [hslot, List.find?_eq_none]
    intro k _ hk
    rw [of_decide_eq_true hk, slotAt_slotOffset] at hslot
    cases hslot

/-- Among the slot rows of one direction a legal access of that direction finds the row of the slot at its offset. -/
theorem firstName_slotRows (dir : Dir) :
    firstName ph region d (slots.map (slotRow dir)) =
      if descPort d = 0b00#2 ∧ descDir d = dir ∧ descRsv d = 0#3 ∧ descSz d ≠ 0b11#2 then
        (slotAt (descOff d)).map (slotRowName dir)
      else none := by
  rw [firstName, List.find?_map, Option.map_map]
  simp only [Function.comp_def, slotRow, rowMatches_slot]
  split
  case isTrue h =>
    obtain ⟨hport, hdir, hrsv, hsz⟩ := h
    simp only [hport, hdir, hrsv, hsz, true_and, and_true, not_false_eq_true, ne_eq, find?_slots]
  case isFalse h =>
    rw [List.find?_eq_none.mpr]
    · rfl
    · intro k _ hk
      obtain ⟨⟨hport, hdir, hrsv, -⟩, hsz⟩ := of_decide_eq_true hk
      exact h ⟨hport, hdir, hrsv, hsz⟩

/-! ### The rows of the other ports and the bad offsets -/

theorem firstName_otherRows :
    firstName ph region d otherRows =
      if d = deliverDesc then some "DELIVER"
      else if d = canAcceptDesc then some "CAN_ACCEPT"
      else if d = resetDesc then some "RESET"
      else if d = destroyDesc then some "DESTROY"
      else if (descPort d = 0b00#2 ∧ descDir d = .read ∧ descRsv d = 0#3) ∧
          descSz d ≠ 0b11#2 ∧ (descOff d).toNat < region ∧ descOff d ∉ validOffsets then some "RD_BADOFF"
      else if (descPort d = 0b00#2 ∧ descDir d = .write ∧ descRsv d = 0#3) ∧
          descSz d ≠ 0b11#2 ∧ (descOff d).toNat < region ∧ descOff d ∉ validOffsets then some "WR_BADOFF"
      else some "REFUSED_FORM" := by
  have hread : 0x0000000000#40 = packDescriptor 0b00#2 (dirBit .read) 0b00#2 0#3 0#32 := by decide
  have hwrite : 0x2000000000#40 = packDescriptor 0b00#2 (dirBit .write) 0b00#2 0#3 0#32 := by decide
  have hrdBadoff := rowMatches_badOffset ph region d "RD_BADOFF" .read 5
  have hwrBadoff := rowMatches_badOffset ph region d "WR_BADOFF" .write 5
  rw [← hread] at hrdBadoff
  rw [← hwrite] at hwrBadoff
  unfold deliverDesc canAcceptDesc resetDesc destroyDesc
  simp only [otherRows, firstName_cons, firstName_nil, rowMatches_exact, hrdBadoff, hwrBadoff, rowMatches_unmasked,
    rowCondHolds, decide_eq_true_eq, if_true]

end

/-! ### The decoder and the table agree -/

theorem mnemonic_decodeRead_slot (w : Width) (k : Slot) :
    mnemonic (decodeRead w (slotOffset k)) = slotRowName .read k := by
  cases k <;> rfl

theorem mnemonic_decodeWrite_slot (w : Width) (k : Slot) (wdata : BusWord) :
    mnemonic (decodeWrite w (slotOffset k) wdata) = slotRowName .write k := by
  cases k <;> rfl

section
variable {ph : Phase} {region : Nat} {d : Descriptor}

theorem LegalCpuAccess.sz_ne {w : Width} (h : LegalCpuAccess d w) : descSz d ≠ 0b11#2 := by
  rw [← szOfWidth_of_widthOfSz h.width]
  cases w <;> decide

theorem LegalCpuAccess.ne_of_port {w : Width} (h : LegalCpuAccess d w) {p : Descriptor} (hp : descPort p ≠ 0b00#2) : d ≠ p :=
  fun hd => hp (hd ▸ h.port)

/-- A legal access inside the window finds a slot's row of its direction, or is left to the bad offsets. -/
theorem LegalCpuAccess.firstName_eq {w : Width} (h : LegalCpuAccess d w) (hph : ph ≠ .destroyed)
    (hoff : (descOff d).toNat < region) :
    firstName ph region d opcodeTable =
      ((slotAt (descOff d)).map (slotRowName (descDir d))).or (firstName ph region d otherRows) := by
  have hrefusal : firstName ph region d refusalRows = none := by
    simp [firstName_refusalRows, hph, h.rsv, h.port, h.sz_ne, hoff]
  rw [firstName_opcodeTable, hrefusal, readRows_eq, writeRows_eq, firstName_slotRows, firstName_slotRows]
  cases hdir : descDir d <;> simp [h.rsv, h.port, h.sz_ne]

theorem firstName_otherRows_of_badOffset {w : Width} (h : LegalCpuAccess d w) (hoff : (descOff d).toNat < region)
    (hV : descOff d ∉ validOffsets) :
    firstName ph region d otherRows = if descDir d = .read then some "RD_BADOFF" else some "WR_BADOFF" := by
  have hdeliver := h.ne_of_port (p := deliverDesc) (by decide)
  have hcanAccept := h.ne_of_port (p := canAcceptDesc) (by decide)
  have hreset := h.ne_of_port (p := resetDesc) (by decide)
  have hdestroy := h.ne_of_port (p := destroyDesc) (by decide)
  cases hdir : descDir d <;>
    simp [firstName_otherRows, hdeliver, hcanAccept, hreset, hdestroy, h.port, h.rsv, h.sz_ne, hoff, hV, hdir]

theorem firstName_otherRows_of_otherPort {q : Request} (hport : descPort q.desc ≠ 0b00#2) :
    firstName ph region q.desc otherRows = some (mnemonic (decodeOther q)) := by
  unfold decodeOther
  split_ifs with hdeliver hreset hdestroy hcanAccept
  · rw [firstName_otherRows, hdeliver]; rfl
  · rw [firstName_otherRows, hreset]; rfl
  · rw [firstName_otherRows, hdestroy]; rfl
  · rw [firstName_otherRows, hcanAccept]; rfl
  · simp [firstName_otherRows, hport, hdeliver, hreset, hdestroy, hcanAccept, mnemonic]

end

theorem DecodesTo.firstName_eq {ph : Phase} {region : Nat} {q : Request} {i : Instr} (h : DecodesTo ph region q i) :
    firstName ph region q.desc opcodeTable = some (mnemonic i) := by
  cases h with
  | destroyed hph => simp [firstName_opcodeTable, firstName_refusalRows, hph, mnemonic]
  | reservedBits hph hrsv => simp [firstName_opcodeTable, firstName_refusalRows, hph, hrsv, mnemonic]
  | width hph hrsv hport hsz => simp [firstName_opcodeTable, firstName_refusalRows, hph, hrsv, hport, hsz, mnemonic]
  | window hph hcpu hoff =>
    simp [firstName_opcodeTable, firstName_refusalRows, hph, hcpu.rsv, hcpu.port, hcpu.sz_ne, hoff, mnemonic]
  | @read w hph hcpu hoff hdir =>
    rw [hcpu.firstName_eq hph hoff, hdir]
    cases hk : slotAt (descOff q.desc) with
    | none =>
      have hV := (slotAt_eq_none_iff _).mp hk
      rw [firstName_otherRows_of_badOffset hcpu hoff hV, if_pos hdir, Machine.decodeRead_of_notMem hV]
      rfl
    | some k =>
      rw [← slotOffset_of_slotAt hk, mnemonic_decodeRead_slot]
      rfl
  | @write w hph hcpu hoff hdir =>
    rw [hcpu.firstName_eq hph hoff, hdir]
    cases hk : slotAt (descOff q.desc) with
    | none =>
      have hV := (slotAt_eq_none_iff _).mp hk
      rw [firstName_otherRows_of_badOffset hcpu hoff hV, hdir, Machine.decodeWrite_of_notMem hV]
      rfl
    | some k =>
      rw [← slotOffset_of_slotAt hk, mnemonic_decodeWrite_slot]
      rfl
  | other hph hrsv hport =>
    rw [firstName_opcodeTable, readRows_eq, writeRows_eq]
    simp [firstName_refusalRows, firstName_slotRows, hph, hrsv, hport, firstName_otherRows_of_otherPort hport]

/-- Settles O6: in each case of the decoder the rows before the instruction's own are ruled out by the checks passed. -/
theorem decoderAnswersTheFirstMatchingRow : Obligations.DecoderAnswersTheFirstMatchingRow :=
  fun ph region q _ => (decodesTo_decode ph region q).firstName_eq

end Sys2Proof
end

section
/-! SUPPORT. One request and a sequence of them: apart from the record of refusals a request leaves the `effect` of the
instruction it decodes to, and what every request keeps a sequence keeps (20_memory.md R73, 60_exceptions.md R204). -/

namespace Sys2Proof.Machine

/-! ### What one request leaves -/

theorem instrOf_of_destroyed {s : State} (h : s.phase = .destroyed) (q : Request) :
    instrOf q s = .refusedDestroyed q.desc := if_pos h

/-- A request that is refused has decoded to a refused row: on a destroyed instance every request has. -/
theorem isRefusedRow_of_exec_refused {q : Request} {s : State} {r : Refusal} (h : exec (instrOf q s) s = .refused r) :
    isRefusedRow (instrOf q s) = true := by
  rcases exec_refused h with hd | hr
  · rw [instrOf_of_destroyed hd]; rfl
  · exact hr

theorem effect_of_refusedRow {i : Instr} (hr : isRefusedRow i = true) (s : State) : effect i s = s := by
  cases i
  case refusedDestroyed | refusedReservedBits | refusedWidth | refusedWindow | refusedForm => rfl
  all_goals cases hr

/-- A state with another record of refusals, to compare states apart from it. -/
def State.withRefusals (s : State) (rs : List Refusal) : State := { s with refusals := rs }

/-- Apart from the record of refusals, serving a request is the effect of the instruction it decodes to. -/
theorem serve_eq_effect (q : Request) (s : State) : ∃ rs, serve q s = (effect (instrOf q s) s).withRefusals rs := by
  rcases serve_cases q s with ⟨r, hrefused, hserve⟩ | hnext
  · exact ⟨s.refusals ++ [r], by rw [hserve, effect_of_refusedRow (isRefusedRow_of_exec_refused hrefused)]; rfl⟩
  · obtain ⟨-, -, hserve⟩ := exec_next hnext
    exact ⟨(serve q s).refusals, by rw [← hserve]; rfl⟩

/-- What does not look at the record of refusals finds after a request what it finds after the effect. -/
theorem serve_congr {α : Type} (f : State → α) (hf : ∀ s rs, f (State.withRefusals s rs) = f s) (q : Request) (s : State) :
    f (serve q s) = f (effect (instrOf q s) s) := by
  obtain ⟨rs, hserve⟩ := serve_eq_effect q s
  rw [hserve, hf]

theorem serve_faultRx (q : Request) (s : State) : (serve q s).faultRx = (effect (instrOf q s) s).faultRx :=
  serve_congr State.faultRx (fun _ _ => rfl) q s

theorem serve_sink (q : Request) (s : State) : (serve q s).sink = (effect (instrOf q s) s).sink :=
  serve_congr State.sink (fun _ _ => rfl) q s

theorem irq_serve (q : Request) (s : State) : irq (serve q s) = irq (effect (instrOf q s) s) :=
  serve_congr irq (fun _ _ => rfl) q s

/-! ### What a sequence leaves -/

theorem trace_append (qs qs' : List Request) (s : State) : trace (qs ++ qs') s = trace qs s ++ trace qs' (serveAll qs s) := by
  induction qs generalizing s with
  | nil => rfl
  | cons q qs ih => exact congrArg (instrOf q s :: ·) (ih (serve q s))

/-- What every instruction of a kind keeps, a sequence of requests that decode to that kind keeps. -/
theorem serveAll_induction {P : State → Prop} {ok : Instr → Prop} (hserve : ∀ q s, ok (instrOf q s) → P s → P (serve q s))
    (qs : List Request) (s : State) (hok : ∀ i ∈ trace qs s, ok i) (h : P s) : P (serveAll qs s) := by
  induction qs generalizing s with
  | nil => exact h
  | cons q qs ih =>
    obtain ⟨hq, hqs⟩ := List.forall_mem_cons.mp hok
    exact ih (serve q s) hqs (hserve q s hq h)

end Sys2Proof.Machine
end

section
/-! SUPPORT. The bytes handed to the sink along a sequence (42_transmit_path.md R172). -/

namespace Sys2Proof.Machine

theorem effect_sink (i : Instr) (s : State) : (effect i s).sink = s.sink ++ (sentByte i).toList := by
  cases i
  case wrTx => rfl
  case deliver => simp only [effect]; split <;> exact (List.append_nil _).symm
  all_goals exact (List.append_nil _).symm

theorem sentBytes_cons (q : Request) (qs : List Request) (s : State) :
    sentBytes (q :: qs) s = (sentByte (instrOf q s)).toList ++ sentBytes qs (serve q s) := by
  rw [sentBytes, trace_cons, List.filterMap_cons]
  cases sentByte (instrOf q s) <;> rfl

/-- Settles O31: each request appends the byte of its own TX write, if it is one, and the rest of the sequence what follows. -/
theorem theSinkReceivesTheTxWritesInOrder : Obligations.TheSinkReceivesTheTxWritesInOrder := by
  intro qs s
  induction qs generalizing s with
  | nil => exact (List.append_nil _).symm
  | cons q qs ih => rw [serveAll_cons, ih, serve_sink, effect_sink, sentBytes_cons, List.append_assoc]

end Sys2Proof.Machine
end

section
/-! SUPPORT. The interrupt level along a sequence without STATUS writes: it rises at accepted deliveries and falls at RX reads
and RESETs (43_interrupt_evaluator.md R184, 41_receive_path.md R156). -/

namespace Sys2Proof.Machine

/-- Without a STATUS write the level is set by a delivery, cleared by what ends a pending byte, and kept otherwise
(43_interrupt_evaluator.md R182). -/
theorem irq_effect {i : Instr} (hw : isStatusWrite i = false) (s : State) :
    irq (effect i s) = (isDeliver i || (irq s && !endsPending i)) := by
  cases i
  case wrStatus => cases hw
  case deliver b => exact irq_effect_deliver b s
  case rdRx w => exact (irq_effect_rdRx w s).trans (Bool.and_false _).symm
  case reset => exact (irq_applyReset s).trans (Bool.and_false _).symm
  all_goals exact (irq_effect_of_mayNotChange rfl s).trans (Bool.and_true _).symm

theorem length_acceptedByte (i : Instr) (s : State) :
    (acceptedByte i s).toList.length = if isDeliver i && canAccept s then 1 else 0 := by
  cases i
  case deliver => cases hc : canAccept s <;> simp [acceptedByte, isDeliver, hc]
  all_goals rfl

/-- One request raises the level exactly when it is an accepted delivery. -/
theorem rise_eq_length_acceptedByte {q : Request} {s : State} (hw : isStatusWrite (instrOf q s) = false) :
    (if !(irq s) && irq (serve q s) then 1 else 0) = (acceptedByte (instrOf q s) s).toList.length := by
  rw [length_acceptedByte, irq_serve, irq_effect hw, canAccept_eq_not_irq]
  cases irq s <;> simp

theorem rises_eq_length_acceptedBytes (qs : List Request) (s : State) (hw : NoStatusWrite qs s) :
    rises qs s = (acceptedBytes qs s).length := by
  induction qs generalizing s with
  | nil => rfl
  | cons q qs ih =>
    obtain ⟨hq, hqs⟩ := List.forall_mem_cons.mp hw
    rw [rises, acceptedBytes, List.length_append, rise_eq_length_acceptedByte hq, ih _ hqs]

/-- The request at which the level falls, found at the first state that has it low. -/
theorem exists_endsPending_of_irq_falls (qs : List Request) (s : State) (hw : NoStatusWrite qs s) (hirq : irq s = true)
    (hend : irq (serveAll qs s) = false) :
    ∃ pre q post, qs = pre ++ q :: post ∧ irq (serveAll pre s) = true ∧ irq (serve q (serveAll pre s)) = false ∧
      endsPending (instrOf q (serveAll pre s)) = true := by
  induction qs generalizing s with
  | nil =>
    rw [serveAll_nil, hirq] at hend
    cases hend
  | cons q qs ih =>
    obtain ⟨hq, hqs⟩ := List.forall_mem_cons.mp hw
    cases hnext : irq (serve q s) with
    | false =>
      refine ⟨[], q, qs, rfl, hirq, hnext, ?_⟩
      rw [irq_serve, irq_effect hq, hirq] at hnext
      simpa using (Bool.or_eq_false_iff.mp hnext).2
    | true =>
      obtain ⟨pre, p, post, rfl, hpre, hfall, hends⟩ := ih (serve q s) hqs hnext hend
      exact ⟨q :: pre, p, post, rfl, hpre, hfall, hends⟩

/-- Settles O34: the count request by request, the fall at the first request that leaves the level low. -/
theorem noDoubleInterruptWithoutStatusWrites : Obligations.NoDoubleInterruptWithoutStatusWrites :=
  ⟨rises_eq_length_acceptedBytes, exists_endsPending_of_irq_falls⟩

/-- Settles O25: after a delivery the level is up, so a later state with the predicate true has seen it fall. -/
theorem flowControlHoldsWithoutStatusWrites : Obligations.FlowControlHoldsWithoutStatusWrites := by
  intro b s hl _
  have hirq := irq_effect_deliver b s
  refine ⟨effect (.deliver b) s, exec_of_live hl rfl, by rw [canAccept_eq_not_irq, hirq]; rfl, fun qs hw hend => ?_⟩
  rw [canAccept_eq_not_irq, Bool.not_eq_true'] at hend
  obtain ⟨pre, q, post, rfl, -, -, hends⟩ := exists_endsPending_of_irq_falls qs _ hw hirq hend
  exact ⟨_, by simp [trace_append], hends⟩

end Sys2Proof.Machine
end

section
/-! SUPPORT. The pending byte along a sequence without STATUS writes and RESETs (41_receive_path.md R155). -/

namespace Sys2Proof.Machine

theorem pendingBytes_serve (q : Request) (s : State) : pendingBytes (serve q s) = pendingBytes (effect (instrOf q s) s) :=
  serve_congr pendingBytes (fun _ _ => rfl) q s

theorem pendingBytes_of_irq_low {s : State} (h : irq s = false) : pendingBytes s = [] := by
  simp [pendingBytes, h]

theorem pendingBytes_of_irq_high {s : State} (h : irq s = true) : pendingBytes s = [rxByte s.rx] := by
  simp [pendingBytes, h]

/-- Zero-extending a byte and taking the low byte gives it back. -/
theorem rxByte_rxWord (b : Byte) : rxByte (rxWord b) = b := by
  rw [rxByte, rxWord, BitVec.setWidth_setWidth_of_le _ (by decide), BitVec.setWidth_eq]

/-- An accepted delivery finds nothing pending and leaves its byte; one that is not accepted leaves RX and the level. -/
theorem pendingBytes_deliver (b : Byte) (s : State) :
    pendingBytes s ++ (acceptedByte (.deliver b) s).toList = pendingBytes (effect (.deliver b) s) := by
  rw [pendingBytes_of_irq_high (irq_effect_deliver b s)]
  cases hirq : irq s <;>
    simp [pendingBytes, acceptedByte, effect, canAccept_eq_not_irq, hirq, rxByte_rxWord]

/-- What one instruction does to the pending byte: it comes from a delivery, goes to an RX read, or stays. -/
theorem pendingBytes_effect {i : Instr} (hw : isStatusWrite i = false) (hr : isReset i = false) (s : State) :
    pendingBytes s ++ (acceptedByte i s).toList = consumedByte i s ++ pendingBytes (effect i s) := by
  cases i
  case wrStatus => cases hw
  case reset => cases hr
  case deliver b => exact pendingBytes_deliver b s
  case rdRx w => rw [pendingBytes_of_irq_low (irq_effect_rdRx w s)]; rfl
  case wrTx w wdata =>
    rw [pendingBytes, pendingBytes, irq_effect_wrTx]
    exact List.append_nil _
  all_goals exact List.append_nil _

/-- Settles O27: request by request, the bytes pending and accepted are the bytes taken and left pending. -/
theorem noAcceptedByteIsLostOrReordered : Obligations.NoAcceptedByteIsLostOrReordered := by
  intro qs s hw hr
  induction qs generalizing s with
  | nil => exact List.append_nil _
  | cons q qs ih =>
    obtain ⟨hwq, hwqs⟩ := List.forall_mem_cons.mp hw
    obtain ⟨hrq, hrqs⟩ := List.forall_mem_cons.mp hr
    calc pendingBytes s ++ acceptedBytes (q :: qs) s
      _ = (pendingBytes s ++ (acceptedByte (instrOf q s) s).toList) ++ acceptedBytes qs (serve q s) :=
          (List.append_assoc ..).symm
      _ = consumedByte (instrOf q s) s ++ (pendingBytes (serve q s) ++ acceptedBytes qs (serve q s)) := by
          rw [pendingBytes_effect hwq hrq, pendingBytes_serve, List.append_assoc]
      _ = consumedByte (instrOf q s) s ++ (consumedBytes qs (serve q s) ++ pendingBytes (serveAll qs (serve q s))) := by
          rw [ih _ hwqs hrqs]
      _ = consumedBytes (q :: qs) s ++ pendingBytes (serveAll (q :: qs) s) := (List.append_assoc ..).symm

end Sys2Proof.Machine
end

section
/-! SUPPORT. The inversion of a step. -/

namespace Sys2Proof.Machine

/-- A step keeps the state or serves a request it takes from the inbox. -/
theorem step_next {s t : State} (h : step s = .next t) : t = s ∨ ∃ q rest, t = serve q (s.withInbox rest) := by
  cases hinbox : s.inbox with
  | nil =>
    rw [step_of_nil hinbox] at h
    cases h
    exact .inl rfl
  | cons q rest =>
    rw [step_of_cons hinbox] at h
    cases h
    exact .inr ⟨q, rest, rfl⟩

end Sys2Proof.Machine
end

section
/-! SUPPORT. The fault flag: a DELIVER under a set bit 2 sets it, nothing clears it and nothing reads it (10_state.md R37). -/

namespace Sys2Proof.Machine

theorem effect_faultRx (i : Instr) (s : State) : (effect i s).faultRx = (s.faultRx || (isDeliver i && irq s)) := by
  cases i
  case deliver => cases hirq : irq s <;> simp [effect, canAccept_eq_not_irq, isDeliver, hirq, State.raiseRxFault]
  all_goals exact (Bool.or_false _).symm

/-- Settles O24: a source that keeps its duty delivers only under a clear bit 2, and no other instruction sets the flag. -/
theorem anObedientSourceNeverFaults : Obligations.AnObedientSourceNeverFaults := by
  intro qs s h
  induction qs generalizing s with
  | nil => rfl
  | cons q qs ih =>
    obtain ⟨hq, hqs⟩ := h
    have hkeep : (isDeliver (instrOf q s) && irq s) = false := by
      cases hd : isDeliver (instrOf q s)
      · rfl
      · simpa [canAccept_eq_not_irq] using hq hd
    rw [serveAll_cons, ih _ hqs, serve_faultRx, effect_faultRx, hkeep, Bool.or_false]

theorem faultRx_of_step {s t : State} (h : step s = .next t) (hfault : s.faultRx = true) : t.faultRx = true := by
  rcases step_next h with rfl | ⟨q, rest, rfl⟩
  · exact hfault
  · rw [serve_faultRx, effect_faultRx, State.withInbox_faultRx, hfault, Bool.true_or]

/-- Settles O44: what an instruction leaves in the flag is the old flag or more, and a step serves one request. -/
theorem theFaultFlagIsSticky : Obligations.TheFaultFlagIsSticky := by
  refine ⟨fun i s t h => ?_, fun s t => faultRx_of_step⟩
  obtain ⟨-, -, rfl⟩ := exec_next h
  exact effect_faultRx i s

/-- A state with another fault flag, to compare states apart from it. -/
def State.withFault (s : State) (f : Bool) : State := { s with faultRx := f }

/-- The one update that writes the flag does not read it, and no other update does. -/
theorem effect_withFault (i : Instr) (s : State) (f f' : Bool) :
    (effect i (s.withFault f)).withFault f' = (effect i s).withFault f' := by
  cases i
  case deliver =>
    have hc : canAccept (s.withFault f) = canAccept s := canAccept_congr rfl
    simp only [effect, hc]
    split <;> rfl
  all_goals rfl

/-- Settles O45: the same instruction is accepted under either flag, and its `effect` apart from the flag does not read it. -/
theorem theFaultFlagIsNotExposed : Obligations.TheFaultFlagIsNotExposed := by
  intro i s t f h
  obtain ⟨hl, hr, rfl⟩ := exec_next h
  exact ⟨effect i (s.withFault f), exec_of_live (s := s.withFault f) hl hr, effect_withFault i s f false⟩

end Sys2Proof.Machine
end

section
/-! SUPPORT. The record of refusals (60_exceptions.md R204, R205). -/

namespace Sys2Proof.Machine

theorem refusals_prefix_serve (q : Request) (s : State) : s.refusals <+: (serve q s).refusals := by
  rcases serve_cases q s with ⟨r, -, hserve⟩ | hnext
  · rw [hserve]
    exact List.prefix_append _ _
  · obtain ⟨-, -, hserve⟩ := exec_next hnext
    rw [hserve, effect_refusals]

/-- Settles O42: a refused request records its name, an accepted one goes to its `effect`, which keeps the record. -/
theorem refusalsAreRecordedForTheWholeRun : Obligations.RefusalsAreRecordedForTheWholeRun := by
  refine ⟨fun q s r => serve_of_refused, fun q s t h => ⟨serve_of_next h, ?_⟩, fun s t h => ?_⟩
  · obtain ⟨-, -, rfl⟩ := exec_next h
    exact effect_refusals _ s
  · rcases step_next h with rfl | ⟨q, rest, rfl⟩
    · exact List.prefix_rfl
    · exact refusals_prefix_serve q (s.withInbox rest)

/-- Settles O43: a step keeps the state or serves the request presented first. -/
theorem nothingInTheBlockIsFatal : Obligations.NothingInTheBlockIsFatal := by
  intro s
  cases hinbox : s.inbox with
  | nil => exact ⟨s, step_of_nil hinbox⟩
  | cons q rest => exact ⟨_, step_of_cons hinbox⟩

end Sys2Proof.Machine
end

section
/-! SUPPORT. Steps and runs: a step serves the request presented first, and what is presented behind it plays no part in that
(20_memory.md R73). -/

namespace Sys2Proof.Machine

theorem effect_withInbox (i : Instr) (s : State) (qs : List Request) :
    effect i (s.withInbox qs) = (effect i s).withInbox qs := by
  cases i
  case deliver =>
    have hc : canAccept (s.withInbox qs) = canAccept s := canAccept_congr rfl
    simp only [effect, hc]
    split <;> rfl
  all_goals rfl

theorem serve_withInbox (q : Request) (s : State) (qs : List Request) :
    serve q (s.withInbox qs) = (serve q s).withInbox qs := by
  have hinstr : instrOf q (s.withInbox qs) = instrOf q s := rfl
  rcases serve_cases q s with ⟨r, hrefused, hserve⟩ | hnext
  · rw [hserve, serve_of_refused (r := r)]
    · rfl
    · rw [hinstr]
      exact exec_refused_congr (s := s) rfl hrefused
  · obtain ⟨hl, hr, hserve⟩ := exec_next hnext
    rw [hserve, ← effect_withInbox]
    exact serve_of_next (exec_of_live (s := s.withInbox qs) hl hr)

/-- The host's run over the requests presented, with the inbox emptied as it goes. -/
theorem run_withInbox (qs : List Request) (s : State) :
    Host.Core.run core qs.length (s.withInbox qs) = .next (serveAll qs (s.withInbox [])) := by
  induction qs generalizing s with
  | nil => rfl
  | cons q qs ih =>
    have hstep : core.step (s.withInbox (q :: qs)) = .next ((serve q s).withInbox qs) :=
      (step_of_cons (s := s.withInbox (q :: qs)) rfl).trans (congrArg _ (serve_withInbox q s qs))
    rw [List.length_cons, run_succ_of_next core hstep, ih, serveAll_cons, serve_withInbox]

/-- Settles O50: one step per request, each serving the one presented first. -/
theorem aRunServesTheTransactionsInOrder : Obligations.ARunServesTheTransactionsInOrder := run_withInbox

/-- A step with something presented takes it and settles what `exec` answers. -/
theorem step_eq_settleOutcome {s : State} {q : Request} {rest : List Request} (h : s.inbox = q :: rest) :
    step s = settleOutcome (s.withInbox rest) (exec (instrOf q s) (s.withInbox rest)) := by
  unfold step takeNext
  rw [h]
  rfl

/-- Settles O1: a decoded instruction is well-formed by `DecodesTo.wellFormed`, and settling is recording a refusal's name. -/
theorem stepRunsTheDecodedTransaction : Obligations.StepRunsTheDecodedTransaction :=
  ⟨fun s q _ h => ⟨(decodesTo_decode s.phase Config.regionSize q).wellFormed, step_eq_settleOutcome h⟩, fun _ => step_of_nil⟩

end Sys2Proof.Machine
end

section
/-! SUPPORT. Which registers an instruction leaves as they were (10_state.md R50). -/

namespace Sys2Proof.Machine

theorem effect_reg_of_mayNotWrite {i : Instr} {r : Reg} (h : mayWrite i r = false) (s : State) :
    (effect i s).reg r = s.reg r := by
  cases i
  case reset => cases h
  case wrBaud | wrStatus | wrDelay | wrControl | wrIe | wrIqc | wrRxt =>
    exact s.setReg_reg_ne _ r _ (of_decide_eq_false h)
  case wrTx w wdata => exact sameRegsBut_effect_wrTx w wdata s r (of_decide_eq_false h)
  case rdRx => exact s.consumeByte_reg r (of_decide_eq_false h)
  case deliver b =>
    obtain ⟨hrx, hstatus⟩ := not_or.mp (of_decide_eq_false h)
    simp only [effect]
    split
    · exact s.receiveByte_reg b r hrx hstatus
    · rfl
  all_goals rfl

/-- Settles O46: a next state is the instruction's `effect`. -/
theorem registersHaveTheirWritersOnly : Obligations.RegistersHaveTheirWritersOnly := by
  intro i r s t h hkeep
  obtain ⟨-, -, rfl⟩ := exec_next h
  exact effect_reg_of_mayNotWrite hkeep s

end Sys2Proof.Machine
end

section
/-! SUPPORT. The receive path, operation by operation (41_receive_path.md R151 to R157). -/

namespace Sys2Proof.Machine

/-! ### RD_RX -/

/-- Settles O20: RD_RX is the read row of the RX slot, and its `effect` clears bit 2 of STATUS and notifies. -/
theorem rxReadConsumesTheByte : Obligations.RxReadConsumesTheByte := by
  intro w s hl
  have hirq := irq_effect_rdRx w s
  refine ⟨readEncodes_slot .rx w hl, effect (.rdRx w) s, exec_of_live hl rfl, rfl, fun n => ?_, s.consumeByte_reg, rfl,
    phaseAfterAccess_of_live hl, rfl, rfl, ⟨rfl, rfl, rfl⟩, hirq, ?_⟩
  · rw [effect_status, statusAfter, getLsbD_statusAfterRxRead, decide_not]
  · rw [canAccept_eq_not_irq, hirq, Bool.not_false]

/-! ### DELIVER -/

theorem effect_deliver_of_canAccept {s : State} (hc : canAccept s = true) (b : Byte) :
    effect (.deliver b) s = (s.receiveByte b).operate := if_pos hc

theorem effect_deliver_of_full {s : State} (hc : canAccept s = false) (b : Byte) :
    effect (.deliver b) s = s.raiseRxFault.operate := by
  simp [effect, hc]

theorem canAccept_effect_deliver (b : Byte) (s : State) : canAccept (effect (.deliver b) s) = false := by
  rw [canAccept_eq_not_irq, irq_effect_deliver, Bool.not_true]

theorem instrOf_deliverRequest {s : State} (hl : Live s) (b : Byte) : instrOf (deliverRequest b) s = .deliver b :=
  (instrOf_of_otherPort hl (by decide) (by decide) _).trans (decodeOther_deliverRequest b)

/-- Settles O21: the `effect` of a delivery the predicate admits is `receiveByte`. -/
theorem deliveryIsAcceptedWhenTheBitIsClear : Obligations.DeliveryIsAcceptedWhenTheBitIsClear := by
  intro b s hl hc
  have heffect := effect_deliver_of_canAccept hc b
  refine ⟨instrOf_deliverRequest hl b, (s.receiveByte b).operate, heffect ▸ exec_of_live hl rfl, rfl,
    getLsbD_statusAfterDelivery s.status, s.receiveByte_reg b, phaseAfterAccess_of_live hl, ⟨rfl, rfl, rfl, rfl⟩,
    ⟨rfl, rfl, rfl⟩, heffect ▸ irq_effect_deliver b s, heffect ▸ canAccept_effect_deliver b s⟩

/-- Settles O22: the `effect` of a delivery the predicate refuses is `raiseRxFault`. -/
theorem deliveryWhileFullOnlySetsTheFault : Obligations.DeliveryWhileFullOnlySetsTheFault := by
  intro b s hl hc
  exact ⟨s.raiseRxFault.operate, effect_deliver_of_full hc b ▸ exec_of_live hl rfl, rfl, fun _ => rfl,
    phaseAfterAccess_of_live hl, ⟨rfl, rfl, rfl, rfl⟩, rfl, rfl⟩

/-! ### STATUS writes under and without a pending byte -/

theorem live_effect_wrStatus {s : State} (hl : Live s) (w : Width) (wdata : BusWord) : Live (effect (.wrStatus w wdata) s) :=
  (hl.setReg .status _).operate

/-- Settles O28: after the write bit 2 is clear, so the delivery is accepted. -/
theorem clearingTheBitByAStatusWriteLosesTheByte : Obligations.ClearingTheBitByAStatusWriteLosesTheByte := by
  intro w wdata b s hl _ hbit
  have hc : canAccept (effect (.wrStatus w wdata) s) = true := (congrArg (!·) hbit).trans Bool.not_false
  refine ⟨effect (.wrStatus w wdata) s, _, exec_of_live hl rfl, exec_of_live (live_effect_wrStatus hl w wdata) rfl, hbit, hc,
    rfl, rfl, ?_, ?_, irq_effect_deliver b _⟩
  · rw [effect_deliver_of_canAccept hc]; rfl
  · rw [effect_deliver_of_canAccept hc]; rfl

/-- Settles O29: after the write bit 2 is set, so a delivery is not accepted and an RX read answers the RX of before. -/
theorem settingTheBitByAStatusWriteShowsAStaleByte : Obligations.SettingTheBitByAStatusWriteShowsAStaleByte := by
  intro w k wdata b s hl _ hbit
  have hlive := live_effect_wrStatus hl w wdata
  have hc : canAccept (effect (.wrStatus w wdata) s) = false := (congrArg (!·) hbit).trans Bool.not_true
  refine ⟨effect (.wrStatus w wdata) s, _, _, exec_of_live hl rfl, hbit, hc, exec_of_live (i := .deliver b) hlive rfl, ?_, ?_,
    exec_of_live (i := .rdRx k) hlive rfl, rfl, irq_effect_rdRx k _⟩
  · rw [effect_deliver_of_full hc]; rfl
  · rw [effect_deliver_of_full hc]; rfl

/-! ### Two RX reads -/

/-- Clearing a bit that is clear changes nothing. -/
theorem statusAfterRxRead_of_irq_low {s : State} (h : irq s = false) : statusAfterRxRead s.status = s.status := by
  refine BitVec.eq_of_getLsbD_eq fun n _ => ?_
  rw [getLsbD_statusAfterRxRead]
  by_cases hn : n = 2
  · rw [hn, show s.status.getLsbD 2 = false from h]; rfl
  · simp [hn]

/-- What an RX read leaves and everything but DELIVER, RESET and STATUS writes keeps: the value in RX, no byte pending, and a
phase other than Reset. -/
def ReadBehind (v : Word) (s : State) : Prop := s.rx = v ∧ irq s = false ∧ s.phase ≠ .reset

theorem readBehind_effect_rdRx {s : State} (hl : Live s) (w : Width) : ReadBehind s.rx (effect (.rdRx w) s) := by
  refine ⟨rfl, irq_effect_rdRx w s, ?_⟩
  rw [effect_phase_of_movesPhase rfl, phaseAfterAccess_of_live hl]
  decide

theorem ReadBehind.effect {v : Word} {s : State} (h : ReadBehind v s) {i : Instr} (hd : isDeliver i = false)
    (hr : isReset i = false) (hw : isStatusWrite i = false) : ReadBehind v (effect i s) := by
  obtain ⟨hrx, hirq, hphase⟩ := h
  have hirq' : irq (Machine.effect i s) = false := by rw [irq_effect hw, hd, hirq]; rfl
  have hmoved : phaseAfterAccess s.phase ≠ .reset := by cases s.phase <;> decide
  cases i
  case deliver => cases hd
  case reset => cases hr
  case destroy => exact ⟨hrx, hirq', by simp [Machine.effect]⟩
  case canAccept | refusedDestroyed | refusedReservedBits | refusedWidth | refusedWindow | refusedForm =>
    exact ⟨hrx, hirq', hphase⟩
  all_goals exact ⟨hrx, hirq', hmoved⟩

theorem ReadBehind.serve {v : Word} {q : Request} {s : State} (h : ReadBehind v s) (hd : isDeliver (instrOf q s) = false)
    (hr : isReset (instrOf q s) = false) (hw : isStatusWrite (instrOf q s) = false) : ReadBehind v (serve q s) := by
  rw [serve_congr (ReadBehind v) fun _ _ => rfl]
  exact h.effect hd hr hw

/-- Behind an RX read the next one only answers and notifies. -/
theorem ReadBehind.effect_rdRx {v : Word} {s : State} (h : ReadBehind v s) (hl : Live s) (w : Width) :
    Machine.effect (.rdRx w) s = { s with responses := s.responses ++ [.data (narrow v w)], notifies := s.notifies + 1 } := by
  obtain ⟨rfl, hirq, hphase⟩ := h
  have hoperating : s.phase = .operating := by
    cases hp : s.phase
    · exact absurd hp hphase
    · rfl
    · exact absurd hp hl
  have hstatus : s.setReg .status (statusAfterRxRead s.status) = s :=
    (congrArg (s.setReg .status) (statusAfterRxRead_of_irq_low hirq)).trans (s.setReg_reg_eq_self .status)
  have hphase' : phaseAfterAccess s.phase = s.phase := by rw [hoperating]; rfl
  rw [Machine.effect, State.consumeByte, hstatus, State.operate]
  simp [State.notifySource, State.respond, hphase']

/-- Settles O26: the first read leaves `ReadBehind`, which the sequence keeps up to the second. -/
theorem rxReadClearIsOneShot : Obligations.RxReadClearIsOneShot := by
  rintro w s a _ qs ha hd hr hw rfl hlb
  obtain ⟨hl, -, rfl⟩ := exec_next ha
  refine ⟨rfl, irq_effect_rdRx w s, ?_⟩
  have hbehind : ReadBehind s.rx (serveAll qs (effect (.rdRx w) s)) :=
    serveAll_induction (ok := fun i => isDeliver i = false ∧ isReset i = false ∧ isStatusWrite i = false)
      (fun _ _ ⟨hd, hr, hw⟩ h => h.serve hd hr hw) qs _ (fun i hi => ⟨hd i hi, hr i hi, hw i hi⟩)
      (readBehind_effect_rdRx hl w)
  exact (exec_of_live hlb rfl).trans (congrArg _ (hbehind.effect_rdRx hlb w))

end Sys2Proof.Machine
end

section
/-! SUPPORT. A stored register written and read back (20_memory.md R66, 40_register_access.md R124). -/

namespace Sys2Proof.Machine

/-- Two instructions that write and read one stored register: the write stores its value in `r`, the read answers what `r`
holds (20_memory.md R64, R65). -/
structure WritesAndReads (r : Reg) (mkWrite : Width → BusWord → Instr) (mkRead : Width → Instr) : Prop where
  writeRow : ∀ w wdata, isRefusedRow (mkWrite w wdata) = false
  readRow : ∀ w, isRefusedRow (mkRead w) = false
  write : ∀ w wdata s, effect (mkWrite w wdata) s = (s.setReg r (narrow wdata w)).operate
  read : ∀ w s, effect (mkRead w) s = (s.respond (.data (narrow (s.reg r) w))).operate

theorem writesAndReads_baud : WritesAndReads .baud .wrBaud .rdBaud :=
  ⟨fun _ _ => rfl, fun _ => rfl, fun _ _ _ => rfl, fun _ _ => rfl⟩

theorem writesAndReads_status : WritesAndReads .status .wrStatus .rdStatus :=
  ⟨fun _ _ => rfl, fun _ => rfl, fun _ _ _ => rfl, fun _ _ => rfl⟩

theorem writesAndReads_delay : WritesAndReads .delay .wrDelay .rdDelay :=
  ⟨fun _ _ => rfl, fun _ => rfl, fun _ _ _ => rfl, fun _ _ => rfl⟩

theorem writesAndReads_control : WritesAndReads .control .wrControl .rdControl :=
  ⟨fun _ _ => rfl, fun _ => rfl, fun _ _ _ => rfl, fun _ _ => rfl⟩

theorem writesAndReads_interruptEnable : WritesAndReads .interruptEnable .wrIe .rdIe :=
  ⟨fun _ _ => rfl, fun _ => rfl, fun _ _ _ => rfl, fun _ _ => rfl⟩

theorem writesAndReads_iqCycles : WritesAndReads .iqCycles .wrIqc .rdIqc :=
  ⟨fun _ _ => rfl, fun _ => rfl, fun _ _ _ => rfl, fun _ _ => rfl⟩

theorem writesAndReads_rxThreshold : WritesAndReads .rxThreshold .wrRxt .rdRxt :=
  ⟨fun _ _ => rfl, fun _ => rfl, fun _ _ _ => rfl, fun _ _ => rfl⟩

section
variable {r : Reg} {mkWrite : Width → BusWord → Instr} {mkRead : Width → Instr} (h : WritesAndReads r mkWrite mkRead)
include h

/-- The read finds the stored value in the register. -/
theorem WritesAndReads.readsBackWritten : ReadsBackWritten mkWrite mkRead := by
  intro w k wdata s hl
  refine ⟨_, _, exec_of_live hl (h.writeRow w wdata), exec_of_live ?_ (h.readRow k), ?_⟩
  · rw [h.write]
    exact (hl.setReg r _).operate
  · simp [h.write, h.read]

/-- The write stores the value the register already holds. -/
theorem WritesAndReads.writeBackIsNeutral : WriteBackIsNeutral r mkWrite mkRead := by
  intro s hl
  have hback : narrow ((s.reg r).setWidth 64) .four = s.reg r := by
    rw [narrow, BitVec.setWidth_setWidth_of_le _ (by decide), BitVec.setWidth_eq]
  have hlive : Live (effect (mkRead .four) s) := by
    rw [h.read]
    exact Live.operate (s := s.respond _) hl
  refine ⟨effect (mkRead .four) s, s.reg r, _, exec_of_live hl (h.readRow .four), ?_,
    exec_of_live hlive (h.writeRow .four _), ?_, ?_⟩
  · simp [h.read, narrow_four]
  · rw [h.write, h.read, hback]
    exact sameRegs_setReg_of_eq (s := (s.respond _).operate) rfl
  · rw [h.write, hback]
    exact State.setReg_reg_self _ r _

end

/-- Settles O9: each write stores in the register its read answers from. -/
theorem readsBackThroughBothWidths : Obligations.ReadsBackThroughBothWidths :=
  ⟨writesAndReads_baud.readsBackWritten, writesAndReads_status.readsBackWritten, writesAndReads_delay.readsBackWritten,
    writesAndReads_control.readsBackWritten, writesAndReads_interruptEnable.readsBackWritten,
    writesAndReads_iqCycles.readsBackWritten, writesAndReads_rxThreshold.readsBackWritten⟩

/-- Settles O18: each write stores in the register its read answers from. -/
theorem writeBackOfAReadValueChangesNothing : Obligations.WriteBackOfAReadValueChangesNothing :=
  ⟨writesAndReads_baud.writeBackIsNeutral, writesAndReads_status.writeBackIsNeutral,
    writesAndReads_delay.writeBackIsNeutral, writesAndReads_control.writeBackIsNeutral,
    writesAndReads_interruptEnable.writeBackIsNeutral, writesAndReads_iqCycles.writeBackIsNeutral,
    writesAndReads_rxThreshold.writeBackIsNeutral⟩

/-- Settles O8: `getLsbD_narrow`, with the bits of a width as eight times its bytes. -/
theorem narrowKeepsTheLowBitsOnly : Obligations.NarrowKeepsTheLowBitsOnly := by
  intro n v w k
  rw [getLsbD_narrow]
  cases w <;> rfl

end Sys2Proof.Machine
end

section
/-! SUPPORT. The lifecycle: construction, RESET twice, and a destroyed instance (44_lifecycle.md R190 to R194). -/

namespace Sys2Proof.Machine

/-- Settles O36: RESET goes to `applyReset`, which overwrites all it writes. -/
theorem resetIsIdempotent : Obligations.ResetIsIdempotent :=
  fun s hl => ⟨s.applyReset, exec_of_live hl rfl, exec_of_live (live_applyReset s) rfl, rfl⟩

theorem irqLine_applyReset (s : State) : irqLine s.applyReset = some false := by
  rw [irqLine_of_live (live_applyReset s), irq_applyReset]

/-- Settles O40: construction is `applyReset` of the created instance. -/
theorem constructionEndsInTheResetState : Obligations.ConstructionEndsInTheResetState :=
  ⟨fun r => by cases r <;> rfl, rfl, irqLine_applyReset State.created⟩

/-- Settles O51: RX is zero, no diagnostic is recorded, and every register has its reset value. -/
theorem resetStateMeetsTheInvariant : Obligations.ResetStateMeetsTheInvariant :=
  ⟨by decide, List.forall_mem_nil _, fun _ => State.reset_reg⟩

theorem serve_of_destroyed {s : State} (h : s.phase = .destroyed) (q : Request) : serve q s = s.recordRefusal .destroyed :=
  serve_of_refused (exec_of_destroyed _ h)

/-- Settles O38: one refusal DESTROYED per request, which leaves the instance destroyed. -/
theorem aDestroyedInstanceStaysAsItIs : Obligations.ADestroyedInstanceStaysAsItIs := by
  intro qs s h
  induction qs generalizing s with
  | nil => simp
  | cons q qs ih =>
    rw [serveAll_cons, serve_of_destroyed h, ih (s.recordRefusal .destroyed) h]
    simp [State.recordRefusal, List.replicate_succ]

theorem irqLine_serveAll_of_destroyed (qs : List Request) {s : State} (h : s.phase = .destroyed) :
    irqLine (serveAll qs s) = none := by
  rw [aDestroyedInstanceStaysAsItIs qs s h]
  exact irqLine_of_destroyed h

/-- Settles O53: the line is low after `applyReset`, and a destroyed instance stays destroyed. -/
theorem theLineIsLowAtResetAndReleasedAtDestroy : Obligations.TheLineIsLowAtResetAndReleasedAtDestroy := by
  refine ⟨fun qs s => irqLine_serveAll_of_destroyed qs, irqLine_applyReset _, fun s hl => ⟨?reset, ?destroy⟩⟩
  case reset => exact ⟨s.applyReset, exec_of_live hl rfl, irqLine_applyReset s⟩
  case destroy => exact ⟨s.release, exec_of_live hl rfl, fun qs => irqLine_serveAll_of_destroyed qs rfl⟩

theorem instrOf_destroyDesc {s : State} (hl : Live s) (payload : BusWord) : instrOf ⟨destroyDesc, payload⟩ s = .destroy :=
  instrOf_of_otherPort hl (by decide) (by decide) payload

/-- Settles O37: DESTROY goes to `release`, and a destroyed instance decodes and refuses every transaction alike. -/
theorem destroyReleasesTheInstance : Obligations.DestroyReleasesTheInstance := by
  intro s hl
  exact ⟨instrOf_destroyDesc hl, s.release, exec_of_live hl rfl, rfl, fun _ => rfl, ⟨rfl, rfl, rfl, rfl⟩, ⟨rfl, rfl, rfl⟩,
    irqLine_of_destroyed rfl, instrOf_of_destroyed rfl, fun i => exec_of_destroyed i rfl⟩

end Sys2Proof.Machine
end

section
/-! SUPPORT. The bus side of the window (20_memory.md R60), and the words of the test vectors (95_test_vectors.md). -/

namespace Sys2Proof.Machine

/-- The code an access of `n` bytes is described with names its width (20_memory.md R63). -/
theorem widthOfSz_szOfBytes (n : Nat) :
    widthOfSz (szOfBytes n) = if n = 1 then some .one else if n = 2 then some .two else if n = 4 then some .four else none := by
  unfold szOfBytes
  split_ifs <;> rfl

/-- What an access is that reaches the block. -/
theorem busRequest_eq_some {dir : Dir} {addr n : Nat} {wdata : BusWord} {q : Request}
    (h : busRequest dir addr n wdata = some q) :
    q.desc = packDescriptor 0b00#2 (dirBit dir) (szOfBytes n) 0#3 (BitVec.ofNat 32 (addr - Config.base)) ∧
      addr - Config.base < 2 ^ 32 ∧ (dir = .write → q.payload = wdata) := by
  unfold busRequest at h
  split at h
  case isTrue hin =>
    obtain ⟨-, -, hfits⟩ := hin
    cases h
    exact ⟨rfl, hfits, by rintro rfl; rfl⟩
  case isFalse => cases h

/-- Settles O7: the request an access in the window is has its fields packed one by one, and its offset fits 32 bits. -/
theorem busAccessesReachTheWindowOnly : Obligations.BusAccessesReachTheWindowOnly := by
  refine ⟨Config.regionSize_ge, fun dir addr n wdata s => ⟨fun hin => ?inside, fun hout => ?outside⟩⟩
  case inside =>
    obtain ⟨q, hq⟩ : ∃ q, busRequest dir addr n wdata = some q := ⟨_, if_pos hin⟩
    obtain ⟨hdesc, hfits, hpayload⟩ := busRequest_eq_some hq
    refine ⟨q, by rw [State.busAccess, hq]; rfl, ?_, ?_, ?_, ?_, ?_, hpayload⟩ <;> rw [hdesc]
    · exact descPort_pack ..
    · exact descDir_pack ..
    · exact descRsv_pack ..
    · rw [descOff_pack, BitVec.toNat_ofNat, Nat.mod_eq_of_lt hfits]
    · rw [descSz_pack, widthOfSz_szOfBytes]
  case outside =>
    have hnone : busRequest dir addr n wdata = none := if_neg hout
    rw [State.busAccess, hnone]

/-- Settles O2: eight closed words, each evaluated by the decoder. -/
theorem wordsOfTheTestVectorsDecode : Obligations.WordsOfTheTestVectorsDecode := by
  unfold Obligations.WordsOfTheTestVectorsDecode
  decide

end Sys2Proof.Machine
end
